-- ==== Sys2Proof/Word.lean ====
section
/-! DEFINITION. Word.lean: the words and names the HY4's manual counts with (00_scope.md, "Conventions" and "Names").
Holders, valves and the rest are numbered from 0 here; the manual's number is the index plus 1 wherever it counts from
1. -/

namespace Sys2Proof

/-- One byte of either serial line. -/
abbrev Byte := BitVec 8

/-- A CRC-16 or an account signature. -/
abbrev Word16 := BitVec 16

/-- H1 to H4 are 0 to 3. -/
abbrev HolderId := Fin 4

/-- V1 to V8 are 0 to 7: the inlet of holder index h is 2h and its outlet 2h + 1. -/
abbrev ValveId := Fin 8

/-- D1 to D4 are 0 to 3. -/
abbrev DistrictId := Fin 4

/-- S1 to S8 are 0 to 7. -/
abbrev StationId := Fin 8

/-- C0 to C20. -/
abbrev ChannelId := Fin 21

/-- K0 to K63; K(4s + c) sits at strobe s and return line c. -/
abbrev PointId := Fin 64

/-- Return lines A to D. -/
abbrev ReturnId := Fin 4

/-- P0 to P5. -/
abbrev PulseId := Fin 6

/-- The number the manual and the lines give a thing that is counted from 1. -/
def number {n : Nat} (i : Fin n) : Nat := i.val + 1

/-- One entry of a fixed bank replaced by a function of itself. -/
def upd {α : Type} {n : Nat} (v : Vector α n) (i : Fin n) (f : α → α) : Vector α n := v.set i (f v[i])

end Sys2Proof
end

