-- ==== Sys2Proof/Syntax.lean ====
section
/-! DEFINITION. Syntax.lean: the commands the HY4 takes, one constructor for each row of spec/opcode_table.json.
The first twenty-five are events of the yard, of the two serial lines and of the part's own timers.
The other thirty-three are the well-formed requests of the host link (R188), each with its tag and its body's fields
in the order its rule names them. A request's fields are numbers as the link carries them, in or out of range, so that
the refusals the rules give are commands like any other. -/

namespace Sys2Proof

/-- The order in which the Valve Unit, the Holder Unit and the Pressure Unit take their contact events of one cycle
end. R20 says these are not ordered among themselves, so the sender of the cycle end says which order fell. -/
inductive BlockOrder where
  | valveHolderPressure | valvePressureHolder | holderValvePressure
  | holderPressureValve | pressureValveHolder | pressureHolderValve
deriving DecidableEq, Repr

/-- The commands of the HY4. -/
inductive Instr where
  /-- POWER_ON (R181): `cellKept` says whether the backup cell kept the memory while the supply was off, `strap`
  whether the link speed strap pin is closed when the drives are released (R187). -/
  | powerOn (cellKept strap : Bool)
  /-- SUPPLY_LOSS (R183). -/
  | supplyLoss
  /-- CONVERSION (R2): channel `c` takes the raw count `raw`. -/
  | conversion (c : ChannelId) (raw : BitVec 16)
  /-- SCAN_CYCLE_END (R15): bit k of `made` is an active reading of K(k), bit c of `quiet` an active quiet reading of
  return line c. -/
  | scanCycleEnd (made : BitVec 64) (quiet : BitVec 4) (order : BlockOrder)
  /-- STAGE_DWELL_EXPIRY (R33): the disagreement timer of `h` reaches its dwell. -/
  | stageDwellExpiry (h : HolderId)
  /-- VALVE_TRAVEL_TIMEOUT (R54): the travel timer of `v` reaches its timeout. -/
  | valveTravelTimeout (v : ValveId)
  /-- GAP_TIMER_EXPIRY (R86). -/
  | gapTimerExpiry
  /-- PULSE (R101): a pulse on the input of `p`. -/
  | pulse (p : PulseId)
  /-- INTERVAL_COUNTER_STOP (R107): the interval counter of `p` reaches 16,777,215. -/
  | intervalCounterStop (p : PulseId)
  /-- CHECK_TIMEOUT (R112). -/
  | checkTimeout
  /-- CLOCK_ADVANCE (R182): the clock advances by one second. -/
  | clockAdvance
  /-- TICK (R119): the Pressure Unit's one-second tick. -/
  | tick
  /-- BOOSTER_START_TIMEOUT (R132). -/
  | boosterStartTimeout
  /-- RUN_ON_EXPIRY (R134). -/
  | runOnExpiry
  /-- OUTSTATION_ASK_SENT (R141): the last byte of an ask leaves the line driver. -/
  | outstationAskSent
  /-- OUTSTATION_BYTE_RECEIVED (R141, R146): `between` says whether the byte falls between two answer slots of a roll
  call; it means nothing at any other time. -/
  | outstationByteReceived (b : Byte) (between : Bool)
  /-- ANSWER_WINDOW_CLOSE (R141). -/
  | answerWindowClose
  /-- READING_AGE_SECOND (R144). -/
  | readingAgeSecond
  /-- POLL_TIMER_EXPIRY (R145). -/
  | pollTimerExpiry
  /-- QUIET_WINDOW_END (R149). -/
  | quietWindowEnd
  /-- CALL_BROADCAST_SENT (R146): the last byte of the CALL broadcast leaves the driver. -/
  | callBroadcastSent
  /-- ROLL_CALL_SLOT_CLOSE (R146): the slot whose turn it is closes. -/
  | rollCallSlotClose
  /-- HOST_BYTE_RECEIVED (R187). -/
  | hostByteReceived (b : Byte)
  /-- FRAME_GAP_TIMEOUT (R187). -/
  | frameGapTimeout
  /-- ANSWER_SENT (R187): `strap` is the strap pin as a start-up that now begins would read it. -/
  | answerSent (strap : Bool)
  | yardStatus (tag : Byte)
  | holderRead (tag : Byte) (holder : Nat)
  | channelRead (tag : Byte) (channel : Nat)
  | contactRead (tag : Byte)
  | meterRead (tag : Byte) (channel : Nat)
  | districtRead (tag : Byte) (district : Nat)
  | stationRead (tag : Byte) (station : Nat)
  | lineResult (tag : Byte)
  | alarmRead (tag : Byte) (position : Nat)
  | accountRead (tag : Byte) (sequence : Option Nat)
  | clockRead (tag : Byte)
  /-- TABLE-READ (R189): `copy` is 0 for the active and 1 for the staged copy. -/
  | tableRead (tag : Byte) (copy table first count : Nat)
  | clockSet (tag : Byte) (day second : Nat)
  /-- TABLE-WRITE (R189): the entry count is the number of `entries`, each a list of field figures. -/
  | tableWrite (tag : Byte) (table first : Nat) (entries : List (List Int))
  | tableCommit (tag : Byte)
  | tableDiscard (tag : Byte)
  | planSet (tag : Byte) (fill send : List Nat)
  | holderHold (tag : Byte) (holder : Nat)
  | holderFree (tag : Byte) (holder : Nat)
  /-- HOLDER-ORDER (R63): `order` is 0 to 3 for OPEN-INLET, CLOSE-INLET, OPEN-OUTLET, CLOSE-OUTLET (R193). -/
  | holderOrder (tag : Byte) (holder order : Nat)
  | valveConfirm (tag : Byte) (valve : Nat)
  | checkStart (tag : Byte) (target pulses tolerance : Nat)
  | checkStop (tag : Byte)
  | boosterReset (tag : Byte)
  | lineHold (tag : Byte)
  | lineFree (tag : Byte)
  | lineAsk (tag : Byte) (station function argument : Nat)
  | lineKill (tag : Byte)
  | lineRestart (tag : Byte)
  | alarmAck (tag : Byte) (sourceType index kind : Nat)
  | alarmAckAll (tag : Byte)
  | accountFree (tag : Byte) (sequence : Nat)
  | restart (tag : Byte)
deriving DecidableEq, Repr

end Sys2Proof
end

