-- ==== Sys2Proof/Config.lean ====
section
/-! DEFINITION. Config.lean: what the part's design fixes once for all, and the free values: the figures the manual
leaves open, which nothing in Lean can evaluate. -/

namespace Sys2Proof.Config

/-- FREE VALUE (log entry 5): byte `i` of the `n` bytes sent for a figure `x` that no `n`-byte number can hold.
The manual gives the width of the field and no rule for such a figure. -/
opaque overflowByte (n : Nat) (x : Int) (i : Nat) : Byte

/-- FREE VALUE (log entry 6): the byte that reports a station code that is none of READY, OLD and WAIT. -/
opaque unknownCode (code : Byte) : Byte

/-- Ticks of the part's 10 kHz reference in a second (R107). -/
def ticksPerSecond : Nat := 10000

/-- The interval counter stops at this figure (R107). -/
def intervalLimit : Nat := 16777215

/-- The answer window of an ask: 200 ms (R141). -/
def answerWindow : Nat := 2000

/-- The alarm list holds at most this many entries (R172). -/
def alarmCapacity : Nat := 32

/-- The account queue holds at most this many records (R165). -/
def accountCapacity : Nat := 64

/-- A holder's order queue holds at most this many entries (R63). -/
def orderCapacity : Nat := 8

/-- An answer body is at most this long (R193). -/
def answerBody : Nat := 243

/-- How many plan events the deliveries between the Yard Plan and the Valve Unit may make inside one step (log entry 9).
No chain the manual describes comes near it. -/
def planFuel : Nat := 32

end Sys2Proof.Config
end

