-- ==== Sys2Proof/Machine/Crc.lean ====
section
/-! DEFINITION. Machine/Crc.lean: the checks of the two lines and of retained memory (R180, R187, R194). -/

namespace Sys2Proof.Machine

/-- One bit of the CRC-16 of the host link (R187). -/
def crc16Bit (c : Word16) : Word16 := if c.msb then (c <<< 1) ^^^ 0x1021 else c <<< 1

/-- One byte of the CRC-16: polynomial 1021h, unreflected (R187). -/
def crc16Byte (c : Word16) (b : Byte) : Word16 :=
  crc16Bit (crc16Bit (crc16Bit (crc16Bit (crc16Bit (crc16Bit (crc16Bit (crc16Bit
    (c ^^^ ((b.zeroExtend 16) <<< 8)))))))))

/-- The CRC-16 of the host link: initial value FFFFh, no final inversion (R187). -/
def crc16 (l : List Byte) : Word16 := l.foldl crc16Byte 0xFFFF

/-- One bit of the CRC-8 of the outstation line (R194). -/
def crc8Bit (c : Byte) : Byte := if c.msb then (c <<< 1) ^^^ 0x07 else c <<< 1

/-- One byte of the CRC-8: polynomial 07h (R194). -/
def crc8Byte (c b : Byte) : Byte :=
  crc8Bit (crc8Bit (crc8Bit (crc8Bit (crc8Bit (crc8Bit (crc8Bit (crc8Bit (c ^^^ b))))))))

/-- The CRC-8 of the outstation line: initial value 00h (R194). -/
def crc8 (l : List Byte) : Byte := l.foldl crc8Byte 0

end Sys2Proof.Machine
end

