-- ==== Sys2Proof/Machine/Tables.lean ====
section
/-! DEFINITION. Machine/Tables.lean: the twelve configuration tables (R189), each entry as its fields in the order of
the owning chapter's table, each field the figure as it was written. A commit checks the figures (Machine/Checks.lean);
the typed views below read a table that has passed it. Yes is 1 and no 0; an enumerated item is its position in the
chapter's list, counting from 0 (R193). -/

namespace Sys2Proof.Machine

/-- HOLDER entry (03_holders_and_stock.md). -/
structure HolderEntry where
  configured : Int
  role : Int
  source : Int
  dwell : Int
deriving DecidableEq, Repr

/-- LIFT entry (03_holders_and_stock.md). -/
structure LiftEntry where
  present : Int
  area : Int
  travel : Int
  pressure : Int
deriving DecidableEq, Repr

/-- LIMIT entry (03_holders_and_stock.md). -/
structure LimitEntry where
  landing : Int
  bottom : Int
  low : Int
  high : Int
  top : Int
  hysteresis : Int
deriving DecidableEq, Repr

/-- CHANNEL entry (01_measurement_channels.md). -/
structure ChannelEntry where
  zero : Int
  span : Int
  shift : Int
  staleLimit : Int
  openThreshold : Int
  shortThreshold : Int
  enabled : Int
deriving DecidableEq, Repr

/-- CONTACT entry (02_contact_matrix.md). -/
structure ContactEntry where
  watch : Int
  unit : Int
  lift : Int
  polarity : Int
deriving DecidableEq, Repr

/-- VALVE entry (04_valves_and_holder_orders.md). -/
structure ValveEntry where
  configured : Int
  timeout : Int
  slow : Int
deriving DecidableEq, Repr

/-- METER entry (06_meter_counting.md). -/
structure MeterEntry where
  enabled : Int
  pulseVolume : Int
deriving DecidableEq, Repr

/-- STATION entry (08_outstation_line.md). -/
structure StationEntry where
  configured : Int
  district : Int
  acceptOld : Int
  staleLimit : Int
deriving DecidableEq, Repr

/-- DISTRICT entry (07_street_pressure.md). -/
structure DistrictEntry where
  configured : Int
  station : Int
  minOut : Int
  maxOut : Int
  minPoint : Int
  maxPoint : Int
  elevation : Int
  gain : Int
  loadGain : Int
  trimStep : Int
  trimBand : Int
  trimLimit : Int
  slew : Int
deriving DecidableEq, Repr

/-- The ACCOUNT entry (09_send_out_accounts.md). -/
structure AccountEntry where
  gasDayStart : Int
  advisory : Int
  alarm : Int
  floor : Int
deriving DecidableEq, Repr

/-- The YARD entry: the Yard Plan's two fields, then the Pressure Unit's five (R189's text). -/
structure YardEntry where
  tolerance : Int
  gapTime : Int
  margin : Int
  boosterRise : Int
  startTimeout : Int
  runOnCode : Int
  demandHysteresis : Int
deriving DecidableEq, Repr

/-- One copy of all twelve tables, in the order of their numbers. -/
structure Tables where
  holder : Vector HolderEntry 4
  lift : Vector LiftEntry 16
  limit : Vector LimitEntry 4
  channel : Vector ChannelEntry 21
  contact : Vector ContactEntry 64
  valve : Vector ValveEntry 8
  meter : Vector MeterEntry 6
  station : Vector StationEntry 8
  district : Vector DistrictEntry 4
  profile : Vector Int 192
  account : AccountEntry
  yard : YardEntry
deriving DecidableEq, Repr

/-! ### Kinds of channel (R1) -/

/-- What a channel measures. -/
inductive ChannelKind where
  | height | holderPressure | temperature | barometer | mainPressure | districtOutlet
deriving DecidableEq, Repr

/-- The kind of each channel (R1). -/
def kindOf (c : ChannelId) : ChannelKind :=
  if c.val < 4 then .height
  else if c.val < 8 then .holderPressure
  else if c.val < 12 then .temperature
  else if c.val = 12 then .barometer
  else if c.val = 13 ∨ c.val = 15 then .mainPressure
  else if c.val < 17 then .temperature
  else .districtOutlet

def heightChannel (h : HolderId) : ChannelId := ⟨h.val, by omega⟩
def pressureChannel (h : HolderId) : ChannelId := ⟨h.val + 4, by omega⟩
def temperatureChannel (h : HolderId) : ChannelId := ⟨h.val + 8, by omega⟩
def outletChannel (d : DistrictId) : ChannelId := ⟨d.val + 17, by omega⟩

/-- The pulse channel of a district: P1 to P4 for D1 to D4 (R100). -/
def districtPulse (d : DistrictId) : PulseId := ⟨d.val + 1, by omega⟩

/-- The pressure channel at a meter (R100). -/
def meterPressureChannel (p : PulseId) : ChannelId := if p.val = 0 then 13 else 15

/-- The temperature channel at a meter (R100). -/
def meterTemperatureChannel (p : PulseId) : ChannelId := if p.val = 0 then 14 else 16

/-- The barometer. -/
def barometer : ChannelId := 12

def inletOf (h : HolderId) : ValveId := ⟨2 * h.val, by omega⟩
def outletOf (h : HolderId) : ValveId := ⟨2 * h.val + 1, by omega⟩

/-- The holder a valve belongs to (R21). -/
def ownerOf (v : ValveId) : HolderId := ⟨v.val / 2, by omega⟩

/-- Whether a valve is an inlet. -/
def isInlet (v : ValveId) : Bool := v.val % 2 == 0

/-- The LIFT entry of lift `i + 1` of a holder (03_holders_and_stock.md). -/
def liftIndex (h : HolderId) (i : Fin 4) : Fin 16 := ⟨4 * h.val + i.val, by omega⟩

/-- The PROFILE entry of a slot of a district (07_street_pressure.md). -/
def profileIndex (d : DistrictId) (slot : Fin 48) : Fin 192 := ⟨48 * d.val + slot.val, by omega⟩

def allHolders : List HolderId := [0, 1, 2, 3]
def allValves : List ValveId := [0, 1, 2, 3, 4, 5, 6, 7]
def allDistricts : List DistrictId := [0, 1, 2, 3]
def allStations : List StationId := [0, 1, 2, 3, 4, 5, 6, 7]
def allPulses : List PulseId := [0, 1, 2, 3, 4, 5]
def allChannels : List ChannelId :=
  [0, 1, 2, 3, 4, 5, 6, 7, 8, 9, 10, 11, 12, 13, 14, 15, 16, 17, 18, 19, 20]
def allReturns : List ReturnId := [0, 1, 2, 3]
def allPoints : List PointId := List.finRange 64
def allSlots : List (Fin 48) := List.finRange 48

/-- Every configured entry's number, as an index, where it lies in the bank. -/
def fromNumber (n : Nat) (x : Nat) : Option (Fin n) :=
  if h : 1 ≤ x ∧ x ≤ n then some ⟨x - 1, by omega⟩ else none

/-- An index counted from 0, where it lies in the bank. -/
def fromIndex (n : Nat) (x : Nat) : Option (Fin n) := if h : x < n then some ⟨x, h⟩ else none

/-! ### Defaults -/

/-- The default zero of a kind (01_measurement_channels.md). -/
def ChannelKind.zero : ChannelKind → Int
  | .height => 0
  | .holderPressure => 0
  | .temperature => -3000
  | .barometer => 90000
  | .mainPressure => 0
  | .districtOutlet => 0

/-- The default span of a kind (01_measurement_channels.md). -/
def ChannelKind.span : ChannelKind → Int
  | .height => 40000
  | .holderPressure => 5000
  | .temperature => 8000
  | .barometer => 18000
  | .mainPressure => 5000
  | .districtOutlet => 5000

/-- The default CHANNEL entry of a channel. -/
def defaultChannel (c : ChannelId) : ChannelEntry :=
  { zero := (kindOf c).zero, span := (kindOf c).span, shift := 2, staleLimit := 60, openThreshold := 9830,
    shortThreshold := 57343, enabled := 0 }

/-- The default tables, in which nothing is configured or enabled (R181). -/
def Tables.default : Tables :=
  { holder := Vector.replicate 4 ⟨0, 0, 0, 30⟩
    lift := Vector.replicate 16 ⟨0, 1000, 500, 100⟩
    limit := Vector.replicate 4 ⟨100, 0, 0, 0, 0, 150⟩
    channel := Vector.ofFn defaultChannel
    contact := Vector.replicate 64 ⟨0, 0, 0, 0⟩
    valve := Vector.replicate 8 ⟨0, 180, 120⟩
    meter := Vector.replicate 6 ⟨0, 100000⟩
    station := Vector.replicate 8 ⟨0, 1, 0, 120⟩
    district := Vector.replicate 4 ⟨0, 0, 500, 2000, 1000, 2000, 0, 625, 0, 10, 50, 300, 20⟩
    profile := Vector.replicate 192 0
    account := ⟨6, 30, 80, 5000⟩
    yard := ⟨60, 10, 150, 600, 30, 0, 50⟩ }

/-! ### Typed views -/

/-- A yes-or-no field. -/
def isYes (x : Int) : Bool := decide (x = 1)

/-- The source a holder's stage is taken from, or was last taken from (R31). -/
inductive StageSource where
  | height | switch | pressure | nowhere
deriving DecidableEq, Repr

/-- What a contact watches (02_contact_matrix.md); the lift of a CUP is its position among lifts 2 to 4. -/
inductive Watch where
  | nothing
  | valveOpen (v : ValveId)
  | valveShut (v : ValveId)
  | cup (h : HolderId) (lift : Fin 3)
  | crownTop (h : HolderId)
  | crownBottom (h : HolderId)
  | boosterRun
deriving DecidableEq, Repr

/-- The index of a one-based table field that names one of `n` things. -/
def fieldIndex (n : Nat) (x : Int) : Option (Fin n) := fromNumber n x.toNat

/-- What a CONTACT entry makes its point watch. -/
def ContactEntry.watches (e : ContactEntry) : Watch :=
  if e.watch = 1 then ((fieldIndex 8 e.unit).map Watch.valveOpen).getD .nothing
  else if e.watch = 2 then ((fieldIndex 8 e.unit).map Watch.valveShut).getD .nothing
  else if e.watch = 3 then
    match fieldIndex 4 e.unit, fieldIndex 3 (e.lift - 1) with
    | some h, some i => .cup h i
    | _, _ => .nothing
  else if e.watch = 4 then ((fieldIndex 4 e.unit).map Watch.crownTop).getD .nothing
  else if e.watch = 5 then ((fieldIndex 4 e.unit).map Watch.crownBottom).getD .nothing
  else if e.watch = 6 then .boosterRun
  else .nothing

namespace Tables

/-- Whether a holder position is in use (R25). -/
def holderOn (t : Tables) (h : HolderId) : Bool := isYes t.holder[h].configured

/-- Whether a configured holder is the relief holder. -/
def isRelief (t : Tables) (h : HolderId) : Bool := t.holderOn h && decide (t.holder[h].role = 1)

/-- Every configured holder that is not the relief holder is a store holder (00_scope.md, Terms). -/
def isStore (t : Tables) (h : HolderId) : Bool := t.holderOn h && decide (t.holder[h].role ≠ 1)

/-- The relief holder, at most one (R43). -/
def relief (t : Tables) : Option HolderId := allHolders.find? t.isRelief

def stageSource (t : Tables) (h : HolderId) : StageSource :=
  if t.holder[h].source = 1 then .switch else if t.holder[h].source = 2 then .pressure else .height

/-- A holder's lifts, innermost first: the entries marked present. -/
def lifts (t : Tables) (h : HolderId) : List LiftEntry :=
  ([0, 1, 2, 3].map fun i => t.lift[liftIndex h i]).filter fun e => isYes e.present

/-- The stage pressure of stage `k`, 0 Pa at LANDED (R39). A kept stage above the lifts of a new table has the figure of
its LIFT entry all the same (log entry 35). -/
def stagePressure (t : Tables) (h : HolderId) (k : Nat) : Int :=
  match fromNumber 4 k with
  | some i => t.lift[liftIndex h i].pressure
  | none => 0

def channelOn (t : Tables) (c : ChannelId) : Bool := isYes t.channel[c].enabled
def valveOn (t : Tables) (v : ValveId) : Bool := isYes t.valve[v].configured
def meterOn (t : Tables) (p : PulseId) : Bool := isYes t.meter[p].enabled
def stationOn (t : Tables) (n : StationId) : Bool := isYes t.station[n].configured
def districtOn (t : Tables) (d : DistrictId) : Bool := isYes t.district[d].configured

/-- The point assigned a use, if any. -/
def pointOf (t : Tables) (w : Watch) : Option PointId := allPoints.find? fun k => t.contact[k].watches == w

/-- Whether some point is assigned the use. -/
def assigned (t : Tables) (w : Watch) : Bool := (t.pointOf w).isSome

/-- The booster is fitted when BOOSTER-RUN is assigned to a point (R129). -/
def boosterFitted (t : Tables) : Bool := t.assigned .boosterRun

/-- The station of a district, if it names one. -/
def stationOf (t : Tables) (d : DistrictId) : Option StationId := fieldIndex 8 t.district[d].station

/-- The district whose critical point a station watches. -/
def districtOfStation (t : Tables) (n : StationId) : DistrictId := (fieldIndex 4 t.station[n].district).getD 0

/-- The second of the day at which the gas day starts (R157). -/
def gasDaySecond (t : Tables) : Nat := 3600 * t.account.gasDayStart.toNat

end Tables

/-! ### Entries as the host link carries them (R189, R193) -/

def HolderEntry.fields (e : HolderEntry) : List Int := [e.configured, e.role, e.source, e.dwell]
def LiftEntry.fields (e : LiftEntry) : List Int := [e.present, e.area, e.travel, e.pressure]
def LimitEntry.fields (e : LimitEntry) : List Int := [e.landing, e.bottom, e.low, e.high, e.top, e.hysteresis]
def ChannelEntry.fields (e : ChannelEntry) : List Int :=
  [e.zero, e.span, e.shift, e.staleLimit, e.openThreshold, e.shortThreshold, e.enabled]
def ContactEntry.fields (e : ContactEntry) : List Int := [e.watch, e.unit, e.lift, e.polarity]
def ValveEntry.fields (e : ValveEntry) : List Int := [e.configured, e.timeout, e.slow]
def MeterEntry.fields (e : MeterEntry) : List Int := [e.enabled, e.pulseVolume]
def StationEntry.fields (e : StationEntry) : List Int := [e.configured, e.district, e.acceptOld, e.staleLimit]
def DistrictEntry.fields (e : DistrictEntry) : List Int :=
  [e.configured, e.station, e.minOut, e.maxOut, e.minPoint, e.maxPoint, e.elevation, e.gain, e.loadGain, e.trimStep,
    e.trimBand, e.trimLimit, e.slew]
def AccountEntry.fields (e : AccountEntry) : List Int := [e.gasDayStart, e.advisory, e.alarm, e.floor]
def YardEntry.fields (e : YardEntry) : List Int :=
  [e.tolerance, e.gapTime, e.margin, e.boosterRise, e.startTimeout, e.runOnCode, e.demandHysteresis]

/-- Field `i` of an entry as it came over the link. -/
def field (l : List Int) (i : Nat) : Int := l.getD i 0

def HolderEntry.ofFields (l : List Int) : HolderEntry := ⟨field l 0, field l 1, field l 2, field l 3⟩
def LiftEntry.ofFields (l : List Int) : LiftEntry := ⟨field l 0, field l 1, field l 2, field l 3⟩
def LimitEntry.ofFields (l : List Int) : LimitEntry :=
  ⟨field l 0, field l 1, field l 2, field l 3, field l 4, field l 5⟩
def ChannelEntry.ofFields (l : List Int) : ChannelEntry :=
  ⟨field l 0, field l 1, field l 2, field l 3, field l 4, field l 5, field l 6⟩
def ContactEntry.ofFields (l : List Int) : ContactEntry := ⟨field l 0, field l 1, field l 2, field l 3⟩
def ValveEntry.ofFields (l : List Int) : ValveEntry := ⟨field l 0, field l 1, field l 2⟩
def MeterEntry.ofFields (l : List Int) : MeterEntry := ⟨field l 0, field l 1⟩
def StationEntry.ofFields (l : List Int) : StationEntry := ⟨field l 0, field l 1, field l 2, field l 3⟩
def DistrictEntry.ofFields (l : List Int) : DistrictEntry :=
  ⟨field l 0, field l 1, field l 2, field l 3, field l 4, field l 5, field l 6, field l 7, field l 8, field l 9,
    field l 10, field l 11, field l 12⟩
def AccountEntry.ofFields (l : List Int) : AccountEntry := ⟨field l 0, field l 1, field l 2, field l 3⟩
def YardEntry.ofFields (l : List Int) : YardEntry :=
  ⟨field l 0, field l 1, field l 2, field l 3, field l 4, field l 5, field l 6⟩

/-- How many entries a table has and how many fields an entry of it has; (0, 0) for a number that is no table's. -/
def tableSize : Nat → Nat × Nat
  | 1 => (4, 4)
  | 2 => (16, 4)
  | 3 => (4, 6)
  | 4 => (21, 7)
  | 5 => (64, 4)
  | 6 => (8, 3)
  | 7 => (6, 2)
  | 8 => (8, 4)
  | 9 => (4, 13)
  | 10 => (192, 1)
  | 11 => (1, 4)
  | 12 => (1, 7)
  | _ => (0, 0)

/-- The entry of a bank at an index that may lie outside it, as its fields. -/
def readBank {α : Type} {n : Nat} (v : Vector α n) (f : α → List Int) (i : Nat) : List Int :=
  match fromIndex n i with
  | some j => f v[j]
  | none => []

/-- A bank with one entry replaced, or as it was where the index lies outside it. -/
def writeBank {α : Type} {n : Nat} (v : Vector α n) (i : Nat) (e : α) : Vector α n :=
  match fromIndex n i with
  | some j => v.set j e
  | none => v

/-- Entry `i` of table `no`, as its fields. -/
def Tables.entry (t : Tables) (no i : Nat) : List Int :=
  match no with
  | 1 => readBank t.holder HolderEntry.fields i
  | 2 => readBank t.lift LiftEntry.fields i
  | 3 => readBank t.limit LimitEntry.fields i
  | 4 => readBank t.channel ChannelEntry.fields i
  | 5 => readBank t.contact ContactEntry.fields i
  | 6 => readBank t.valve ValveEntry.fields i
  | 7 => readBank t.meter MeterEntry.fields i
  | 8 => readBank t.station StationEntry.fields i
  | 9 => readBank t.district DistrictEntry.fields i
  | 10 => readBank t.profile (fun x => [x]) i
  | 11 => if i = 0 then t.account.fields else []
  | 12 => if i = 0 then t.yard.fields else []
  | _ => []

/-- Table `no` with entry `i` written as given. -/
def Tables.write (t : Tables) (no i : Nat) (l : List Int) : Tables :=
  match no with
  | 1 => { t with holder := writeBank t.holder i (HolderEntry.ofFields l) }
  | 2 => { t with lift := writeBank t.lift i (LiftEntry.ofFields l) }
  | 3 => { t with limit := writeBank t.limit i (LimitEntry.ofFields l) }
  | 4 => { t with channel := writeBank t.channel i (ChannelEntry.ofFields l) }
  | 5 => { t with contact := writeBank t.contact i (ContactEntry.ofFields l) }
  | 6 => { t with valve := writeBank t.valve i (ValveEntry.ofFields l) }
  | 7 => { t with meter := writeBank t.meter i (MeterEntry.ofFields l) }
  | 8 => { t with station := writeBank t.station i (StationEntry.ofFields l) }
  | 9 => { t with district := writeBank t.district i (DistrictEntry.ofFields l) }
  | 10 => { t with profile := writeBank t.profile i (field l 0) }
  | 11 => if i = 0 then { t with account := AccountEntry.ofFields l } else t
  | 12 => if i = 0 then { t with yard := YardEntry.ofFields l } else t
  | _ => t

/-- The entries of a TABLE-WRITE put into table `no` from entry `i` onward (R189). -/
def Tables.writeAll (t : Tables) (no : Nat) : Nat → List (List Int) → Tables
  | _, [] => t
  | i, e :: es => (t.write no i e).writeAll no (i + 1) es

end Sys2Proof.Machine
end

