-- ==== Sys2Proof/Machine/State.lean ====
section
/-! DEFINITION. Machine/State.lean: everything the manual gives the HY4, as plain data, and the part right after its
first power-on. A field's docstring names the rule that gives it; a field that is the model's own says so.

A timer is `none` while stopped and otherwise its elapsed ticks of the 10 kHz reference (log entry 2). -/

namespace Sys2Proof.Machine

/-- Stopped, or running with its elapsed ticks. -/
abbrev Timer := Option Nat

/-- A clock time: day number and second of the day. -/
structure Time where
  day : Nat
  second : Nat
deriving DecidableEq, Repr

/-- The part's state (R181). -/
inductive PartState where
  | startUp | unconfigured | run
deriving DecidableEq, Repr

/-! ### Measurement channels -/

/-- Channel status (01_measurement_channels.md, the channel record). -/
inductive ChannelStatus where
  | valid | held | stale | off
deriving DecidableEq, Repr

/-- Channel fault (R3). -/
inductive LoopFault where
  | noFault | openLoop | shortLoop
deriving DecidableEq, Repr

/-- The channel record. -/
structure Channel where
  raw : Nat
  lastGood : Option Nat
  value : Int
  smoothed : Int
  seed : Bool
  status : ChannelStatus
  fault : LoopFault
  age : Nat
deriving DecidableEq, Repr

/-- A channel record at start-up: STALE when enabled and OFF otherwise (R13). -/
def Channel.startUp (enabled : Bool) : Channel :=
  { raw := 0, lastGood := none, value := 0, smoothed := 0, seed := true,
    status := if enabled then .stale else .off, fault := .noFault, age := 0 }

/-! ### Contact matrix -/

/-- The two electrical states of a contact (02_contact_matrix.md). -/
inductive Reading where
  | made | broken
deriving DecidableEq, Repr

/-- An active and valid pair as the scanner delivers it (R20). -/
structure Pair where
  active : Bool
  valid : Bool
deriving DecidableEq, Repr

/-- Inactive and not valid: the last delivered pair from start-up (R20, R23). -/
def Pair.startUp : Pair := ⟨false, false⟩

/-- A contact point record (R15), with the pair last delivered for it (R20). -/
structure Point where
  reading : Reading
  candidate : Option Reading
  debounced : Option Reading
  valid : Bool
  active : Bool
  delivered : Pair
deriving DecidableEq, Repr

/-- A contact point at start-up (R23). -/
def Point.startUp : Point :=
  { reading := .broken, candidate := none, debounced := none, valid := false, active := false,
    delivered := Pair.startUp }

/-- A return line record (R16). -/
structure ReturnLine where
  stuck : Bool
  run : Bool
deriving DecidableEq, Repr

/-- A return line at start-up: CLEAN, run 0 (R23). -/
def ReturnLine.startUp : ReturnLine := ⟨false, false⟩

/-! ### Holders -/

/-- A holder record (R25), with the contact pairs last delivered to the Holder Unit (R20). A stage is 0 for LANDED and
1 to 4 otherwise; a source's stage is `none` when INVALID. -/
structure HolderRec where
  height : Int
  usable : Bool
  heightStage : Option Nat
  switchStage : Option Nat
  pressureStage : Option Nat
  selected : Nat
  stageFrom : StageSource
  disagreeTimer : Timer
  disagree : Bool
  high : Bool
  top : Bool
  low : Bool
  bottom : Bool
  pressure : Int
  volume : Int
  stock : Int
  estimated : Bool
  worked : Bool
  capacity : Int
  cups : Vector Pair 3
  crownTop : Pair
  crownBottom : Pair
deriving DecidableEq, Repr

/-- A holder record at start-up, with its capacity from the active tables (R47, R48). -/
def HolderRec.startUp (capacity : Int) : HolderRec :=
  { height := 0, usable := false, heightStage := none, switchStage := none, pressureStage := none, selected := 0,
    stageFrom := .nowhere, disagreeTimer := none, disagree := false, high := false, top := false, low := false,
    bottom := false, pressure := 0, volume := 0, stock := 0, estimated := true, worked := false,
    capacity := capacity, cups := Vector.replicate 3 Pair.startUp, crownTop := Pair.startUp,
    crownBottom := Pair.startUp }

/-! ### Valves and holder orders -/

/-- A valve's state (R50). -/
inductive ValveState where
  | closed | opening | opened | closing | fault
deriving DecidableEq, Repr

/-- The drive line in use (R50). -/
inductive Drive where
  | openLine | closeLine | undriven
deriving DecidableEq, Repr

/-- The originator of an operation (R50). -/
inductive Originator where
  | plan | protection | manual | nobody
deriving DecidableEq, Repr

/-- Why a valve is in FAULT (R50). -/
inductive FaultCause where
  | timeout | contradiction | drift | midTravel | unsettled | noCause
deriving DecidableEq, Repr

/-- Where a valve's contacts say it stands (R51, in the order of R73). -/
inductive Position where
  | atOpen | atShut | between | contradictory | unknown
deriving DecidableEq, Repr

/-- The direction of an order (R52). -/
inductive Direction where
  | toOpen | toClose
deriving DecidableEq, Repr

/-- How an order ends (R60). -/
inductive EndResult where
  | arrived | present | fault | reversed | refused
deriving DecidableEq, Repr

/-- A valve record (R50). `planAwaits` is the model's own: whether a PLAN order in flight or joined to the travel still
awaits its end (R56). -/
structure Valve where
  state : ValveState
  drive : Drive
  timer : Timer
  lastTravel : Option Nat
  originator : Originator
  cause : FaultCause
  confirmed : Bool
  openContact : Pair
  shutContact : Pair
  planAwaits : Bool
deriving DecidableEq, Repr

/-- A valve record at start-up: FAULT with cause UNSETTLED when configured, CLOSED otherwise (R50, R71). -/
def Valve.startUp (configured : Bool) : Valve :=
  { state := if configured then .fault else .closed, drive := .undriven, timer := none, lastTravel := none,
    originator := .nobody, cause := if configured then .unsettled else .noCause, confirmed := false,
    openContact := Pair.startUp, shutContact := Pair.startUp, planAwaits := false }

/-- AUTO or MANUAL (R61). -/
inductive Control where
  | auto | manual
deriving DecidableEq, Repr

/-- The four hand orders, in the order of R63's text. -/
inductive HandOrder where
  | openInlet | closeInlet | openOutlet | closeOutlet
deriving DecidableEq, Repr

/-- The four interlocks, in the order of R64. -/
inductive Interlock where
  | outletInUse | inletInUse | atTop | atBottom
deriving DecidableEq, Repr

/-- A queue entry, waiting or running (R63). -/
structure QueueEntry where
  order : HandOrder
  running : Bool
deriving DecidableEq, Repr

/-- A holder's control, order queue, last-flush count and last interlock refusal (R61, R63). -/
structure HolderControl where
  control : Control
  queue : List QueueEntry
  lastFlush : Nat
  lastInterlock : Option (HandOrder × Interlock)
deriving DecidableEq, Repr

/-- AUTO with an empty queue (R71). -/
def HolderControl.startUp : HolderControl := ⟨.auto, [], 0, none⟩

/-! ### The yard plan -/

/-- Which role a changeover moves (R74). -/
inductive RoleKind where
  | fill | send
deriving DecidableEq, Repr

/-- Make-before-break or break-before-make (R82). -/
inductive Method where
  | mbb | bbm
deriving DecidableEq, Repr

/-- The phases of a changeover (R74). -/
inductive Phase where
  | openNew | closeOld | gap | stuck
deriving DecidableEq, Repr

/-- The changeover record (R74). `taken` is the model's own: whether the new valve has become OPEN within the record,
from when the to-holder holds the role (R87). -/
structure Changeover where
  kind : RoleKind
  old : Option HolderId
  new : Option HolderId
  method : Method
  phase : Phase
  awaited : List ValveId
  gap : Timer
  taken : Bool
deriving DecidableEq, Repr

/-- What the Valve Unit delivers to the plan (R60): the end of a PLAN order with the valve's state after it, or any
other change of a valve's state. -/
inductive PlanNote where
  | ended (v : ValveId) (r : EndResult) (after : ValveState)
  | changed (v : ValveId) (after : ValveState)
deriving DecidableEq, Repr

/-- The plan's own state (R74), but for the FILL and SEND orders, which are retained. `inbox` is the model's own: the
Valve Unit's deliveries of the event in hand, empty between steps. -/
structure Plan where
  fill : Option HolderId
  reliefFill : Bool
  send : Option HolderId
  record : Option Changeover
  settle : Option (List ValveId)
  fillMark : Bool
  sendMark : Bool
  freeze : Bool
  makeHold : Bool
  sendShort : Bool
  inbox : List PlanNote
deriving DecidableEq, Repr

/-- The plan at start-up: no role, no record, MAKE-HOLD asserted (R98). -/
def Plan.startUp : Plan :=
  { fill := none, reliefFill := false, send := none, record := none, settle := none, fillMark := false,
    sendMark := false, freeze := false, makeHold := true, sendShort := false, inbox := [] }

/-! ### Meters -/

/-- A pulse channel record (R100); the hour accumulators stand in the Account Unit's retained state (R116). -/
structure Meter where
  counter : Nat
  stage : Bool
  saturated : Bool
  full : Bool
  interval : Timer
  lastInterval : Option Nat
  lastFull : Option Nat
  lastVolume : Option Int
  lastEstimated : Bool
deriving DecidableEq, Repr

/-- A pulse channel record at start-up (R116). -/
def Meter.startUp : Meter :=
  { counter := 0, stage := false, saturated := false, full := false, interval := none, lastInterval := none,
    lastFull := none, lastVolume := none, lastEstimated := false }

/-- The state of the check (R109). -/
inductive CheckState where
  | idle | armed | running | finished | timedOut | aborted
deriving DecidableEq, Repr

/-- Why an aborted check ended (R109). -/
inductive CheckCause where
  | requested | countLimit
deriving DecidableEq, Repr

/-- The check record (R109). `gateTimer` is the count behind the gate time while the gate is open. -/
structure Check where
  state : CheckState
  target : Option (Fin 5)
  pulses : Nat
  tolerance : Nat
  targetCount : Nat
  checkCount : Nat
  timer : Timer
  gateTimer : Timer
  gateTime : Option Nat
  ratio : Option Int
  cause : Option CheckCause
deriving DecidableEq, Repr

/-- The check record at start-up (R116). -/
def Check.startUp : Check :=
  { state := .idle, target := none, pulses := 0, tolerance := 0, targetCount := 0, checkCount := 0, timer := none,
    gateTimer := none, gateTime := none, ratio := none, cause := none }

/-! ### Street pressure -/

/-- What an accepted reading did to the trim (R127). -/
inductive TrimDecision where
  | raised | lowered | kept
deriving DecidableEq, Repr

/-- A district record (R118), with the load of the latest evaluation (R139); the trim itself is retained. `slot` is
`none` for CLOCK-UNSET. -/
structure District where
  slot : Option Nat
  profileTerm : Int
  load : Int
  loadTerm : Int
  trimBefore : Option Int
  lastDecision : Option (Int × TrimDecision)
  staticCap : Int
  cap : Int
  wanted : Int
  target : Int
  setpoint : Int
  feedShort : Bool
  frozen : Bool
  driven : Bool
deriving DecidableEq, Repr

/-- A district record at start-up, with the caps of the active DISTRICT table (R138). -/
def District.startUp (staticCap cap : Int) : District :=
  { slot := some 0, profileTerm := 0, load := 0, loadTerm := 0, trimBefore := none, lastDecision := none,
    staticCap := staticCap, cap := cap, wanted := 0, target := 0, setpoint := 0, feedShort := false, frozen := false,
    driven := false }

/-- The yard-wide figures (R118, R121), the freeze as the plan last delivered it, the tick timer (R119), whether the
start-up's setpoint step has been reached, and whether the booster still waits for the first tick after it (R138). -/
structure Pressure where
  send : Option HolderId
  freeze : Bool
  feed : Int
  available : Int
  tickTimer : Timer
  begun : Bool
  boosterWaits : Bool
deriving DecidableEq, Repr

/-- The yard-wide figures at start-up (R138). -/
def Pressure.startUp : Pressure :=
  { send := none, freeze := false, feed := 0, available := 0, tickTimer := none, begun := false,
    boosterWaits := false }

/-- The booster's state (R129). -/
inductive BoosterState where
  | idle | starting | running | runOn | failed
deriving DecidableEq, Repr

/-- Why the booster failed (R129). -/
inductive BoosterCause where
  | noStart | quitRunning
deriving DecidableEq, Repr

/-- The booster record (R129). -/
structure Booster where
  state : BoosterState
  demand : Bool
  runLine : Bool
  startTimer : Timer
  runOnTimer : Timer
  contact : Pair
  cause : Option BoosterCause
deriving DecidableEq, Repr

/-- The booster at start-up (R138). -/
def Booster.startUp : Booster :=
  { state := .idle, demand := false, runLine := false, startTimer := none, runOnTimer := none,
    contact := Pair.startUp, cause := none }

/-! ### Outstation line -/

/-- Whether a station is known to answer (R140). -/
inductive Presence where
  | unknown | present | absent
deriving DecidableEq, Repr

/-- Whether a reading may still be used (R140). -/
inductive Freshness where
  | fresh | stale | noReading
deriving DecidableEq, Repr

/-- The functions of an ask (R194). -/
inductive AskFunction where
  | readPoint | readStatus | echo
deriving DecidableEq, Repr

/-- The result of an ask, with the station code as it came when GOOD (R141). -/
inductive AskResult where
  | good (code : Byte)
  | noAnswer | badCheck | wrongStation | aborted
deriving DecidableEq, Repr

/-- What a GOOD READ-POINT answer did to the reading (R142). -/
inductive Gating where
  | accepted | heldOld | heldAged | noUpdate
deriving DecidableEq, Repr

/-- A station record (R140). -/
structure Station where
  presence : Presence
  misses : Nat
  reading : Option Int
  age : Nat
  freshness : Freshness
  lastResult : Option AskResult
  lastGating : Option Gating
deriving DecidableEq, Repr

/-- A station record at start-up (R155). -/
def Station.startUp : Station :=
  { presence := .unknown, misses := 0, reading := none, age := 0, freshness := .noReading, lastResult := none,
    lastGating := none }

/-- The line state (R140). -/
inductive LineState where
  | calling | polling | holding | held | manualBusy
deriving DecidableEq, Repr

/-- The ask in flight (R140): polled or manual. -/
structure Ask where
  station : StationId
  function : AskFunction
  argument : Byte
  manual : Bool
deriving DecidableEq, Repr

/-- The manual result record (R148): IN-FLIGHT while `result` is `none`, ENDED after. -/
structure ManualResult where
  station : StationId
  function : AskFunction
  argument : Byte
  result : Option AskResult
  value : Option Int
  age : Option Nat
  gating : Option Gating
deriving DecidableEq, Repr

/-- What the line driver is sending: nothing, the ask in flight, an ask that was killed or aborted before its last byte
left, or the CALL broadcast (R141, R146, R149). -/
inductive LineDriver where
  | idle | ask | dropped | call
deriving DecidableEq, Repr

/-- The line record (R140), with the bytes and timers the rules of the line count with. `window` is the answer window's
elapsed time, `quiet` what is left of the quiet window, `slot` the answer slot that closes next in a roll call,
`pollWaiting` and `callWaiting` what waits for the end of the quiet window (R145, R151). -/
structure Line where
  state : LineState
  ask : Option Ask
  driver : LineDriver
  window : Timer
  bytes : List Byte
  quiet : Timer
  round : Nat
  roundList : List StationId
  firstRound : Bool
  freePending : Bool
  manualResult : Option ManualResult
  slot : Option (Fin 8)
  pollTimer : Timer
  pollWaiting : Bool
  callWaiting : Bool
  ageTimer : Timer
deriving DecidableEq, Repr

/-- The line record at start-up (R155). -/
def Line.startUp : Line :=
  { state := .calling, ask := none, driver := .idle, window := none, bytes := [], quiet := none, round := 1,
    roundList := [], firstRound := false, freePending := false, manualResult := none, slot := none, pollTimer := none,
    pollWaiting := false, callWaiting := false, ageTimer := some 0 }

/-! ### Send-out accounts -/

/-- The flags of a period (R158, R195). -/
structure Flags where
  clockSet : Bool
  configChanged : Bool
  powerGap : Bool
  estimated : Bool
  saturated : Bool
  makeHold : Bool
  sendShort : Bool
deriving DecidableEq, Repr

/-- No flag set. -/
def Flags.none : Flags := ⟨false, false, false, false, false, false, false⟩

/-- The open hour (R156). -/
structure Hour where
  nominal : Time
  start : Time
  elapsed : Nat
  flags : Flags
  stockStart : Int
deriving DecidableEq, Repr

/-- The open day (R156). `hourFlags` is the union of the flags of the HOUR records closed within it so far, which R158
forms the DAY record's flags from. -/
structure Day where
  nominal : Time
  start : Time
  elapsed : Nat
  flags : Flags
  stockStart : Int
  make : Int
  sendOut : Vector Int 4
  listed : Vector Bool 4
  minPoint : Vector (Option Int) 4
  maxPoint : Vector (Option Int) 4
  hourFlags : Flags
deriving DecidableEq, Repr

/-- The class of a period's unaccounted-for gas (R163). -/
inductive UagClass where
  | normal | advisory | alarm
deriving DecidableEq, Repr

/-- A district's entry in a record (R164). -/
structure DistrictLine where
  district : DistrictId
  sendOut : Int
  minPoint : Option Int
  maxPoint : Option Int
deriving DecidableEq, Repr

/-- An account record (R164); `dayRecord` tells DAY from HOUR. -/
structure Record where
  sequence : Nat
  dayRecord : Bool
  start : Time
  duration : Nat
  flags : Flags
  make : Int
  districts : List DistrictLine
  stockStart : Int
  stockEnd : Int
  uag : Int
  uagClass : UagClass
  prevSignature : Word16
  signature : Word16
deriving DecidableEq, Repr

/-- The Account Unit's state (R156). -/
structure Account where
  running : Bool
  hour : Option Hour
  day : Option Day
  accumulators : Vector Int 5
  bound : Vector Int 4
  queue : List Record
  nextSequence : Nat
  lastSignature : Word16
  hold : Bool
deriving DecidableEq, Repr

/-- The Account Unit after a cold start (R171). -/
def Account.coldStart : Account :=
  { running := false, hour := Option.none, day := Option.none, accumulators := Vector.replicate 5 0,
    bound := Vector.replicate 4 0, queue := [], nextSequence := 0, lastSignature := 0xFFFF, hold := false }

/-! ### Alarms -/

/-- The kinds of alarm, in the order of the catalogue (10_alarm_list.md). -/
inductive AlarmKind where
  | channelFault | returnStuck | stageDisagree | holderHigh | holderTop | holderLow | holderBottom | interlock
  | queueFlushed | valveFault | valveSlow | changeoverStuck | sendShort | meterSaturated | checkOut | checkDone
  | feedShort | boosterFailed | stationAbsent | stationStale | uagHigh | accountDrop | clockUnset
deriving DecidableEq, Repr

/-- Where an entry stands (R172). -/
inductive EntryState where
  | raised | standing | ended
deriving DecidableEq, Repr

/-- An alarm entry (R172). Each kind has one source type, so kind and index name the source. -/
structure AlarmEntry where
  kind : AlarmKind
  index : Nat
  state : EntryState
  time : Time
  clockUnset : Bool
  repeats : Nat
deriving DecidableEq, Repr

/-- The alarm list, oldest entry first, with LIST-FULL and the ATTENTION output (R172, R176, R177). -/
structure AlarmList where
  entries : List AlarmEntry
  listFull : Bool
  attention : Bool
deriving DecidableEq, Repr

/-- The list at start-up (R179). -/
def AlarmList.startUp : AlarmList := ⟨[], false, false⟩

/-! ### Host link -/

/-- The reasons of a refusal, in the order of R188. -/
inductive Reason where
  | unconfigured | badField | busy | full | notHeld | wrongState | interlock | unknown
deriving DecidableEq, Repr

/-- The three parts of a field index (R188). -/
structure FieldIndex where
  table : Nat
  entry : Nat
  field : Nat
deriving DecidableEq, Repr

/-- The outcome of a request: DONE with a body, or REFUSED with a reason and, where R188 gives one, a field index. -/
inductive Reply where
  | accepted (body : List Byte)
  | rejected (reason : Reason) (index : Option FieldIndex)
deriving DecidableEq, Repr

/-- An answer on its way out: the echoed code and tag, and the outcome (R188). -/
structure Answer where
  code : Byte
  tag : Byte
  reply : Reply
deriving DecidableEq, Repr

/-- The receiver's state (R187). -/
inductive Receiver where
  | hunting | receiving | closed
deriving DecidableEq, Repr

/-- The Link Unit (R187): receiver, frame buffer, time since the latest byte of a frame, the answer being sent, whether
a RESTART waits for its answer to leave (R186), and the speed read from the strap (closed is 19,200 baud). -/
structure Link where
  receiver : Receiver
  buffer : List Byte
  gap : Timer
  answer : Option Answer
  restarting : Bool
  fast : Bool
deriving DecidableEq, Repr

/-- The Link Unit at start-up (R183, R187). -/
def Link.startUp (strap : Bool) : Link :=
  { receiver := .hunting, buffer := [], gap := none, answer := none, restarting := false, fast := strap }

/-! ### Retained memory, start-up and the whole part -/

end Sys2Proof.Machine

/-- FREE VALUE (log entry 18): the bytes in which retained memory holds its contents, which the check word is taken
over. The manual lists the items and gives no layout. -/
opaque Sys2Proof.Config.retainedBytes (clock : Sys2Proof.Machine.Time) (clockSet configured : Bool)
    (tables : Sys2Proof.Machine.Tables) (account : Sys2Proof.Machine.Account) (trims : Vector Int 4)
    (fillOrder sendOrder : List Sys2Proof.HolderId) : List Sys2Proof.Byte

namespace Sys2Proof.Machine

/-- Retained memory, with its check word (R180). -/
structure Retained where
  clock : Time
  clockSet : Bool
  configured : Bool
  tables : Tables
  account : Account
  trims : Vector Int 4
  fillOrder : List HolderId
  sendOrder : List HolderId
  checkWord : Word16
deriving DecidableEq, Repr

/-- The check word that fits the contents: a CRC-16 of the host link's kind over all of them, in the order of R180. -/
def Retained.word (r : Retained) : Word16 :=
  crc16 (Config.retainedBytes r.clock r.clockSet r.configured r.tables r.account r.trims r.fillOrder r.sendOrder)

/-- The contents with the check word that a write of them refreshes (R180). -/
def Retained.written (r : Retained) : Retained := { r with checkWord := r.word }

/-- Whether the check word fits the contents, as power-on reads it (R181). -/
def Retained.checkGood (r : Retained) : Bool := r.checkWord == r.word

/-- Retained memory as a cold start writes it, with a good check word over it (R181). -/
def Retained.coldStart : Retained :=
  Retained.written
  { clock := ⟨0, 0⟩, clockSet := false, configured := false, tables := Tables.default,
    account := Account.coldStart, trims := Vector.replicate 4 0, fillOrder := allHolders, sendOrder := allHolders,
    checkWord := 0 }

/-- How far the start-up sequence has come (R184): the channels converted and the scan cycles ended since the release
of the drives, whether the derivation has been made, and the conversion and cycle timers (R2, R15). -/
structure StartUp where
  converted : Vector Bool 21
  scans : Nat
  derived : Bool
  conversionTimer : Timer
  cycleTimer : Timer
deriving DecidableEq, Repr

/-- The sequence at the release of the drives (R184). -/
def StartUp.start : StartUp :=
  { converted := Vector.replicate 21 false, scans := 0, derived := false, conversionTimer := some 0,
    cycleTimer := some 0 }

/-- The whole part. `supply` says whether the main supply is present; `pending` is the model's queue of the commands
that wait, first in first out. -/
structure State where
  supply : Bool
  part : PartState
  retained : Retained
  staged : Tables
  startUp : StartUp
  channels : Vector Channel 21
  points : Vector Point 64
  returns : Vector ReturnLine 4
  holders : Vector HolderRec 4
  controls : Vector HolderControl 4
  valves : Vector Valve 8
  plan : Plan
  meters : Vector Meter 6
  check : Check
  districts : Vector District 4
  press : Pressure
  booster : Booster
  stations : Vector Station 8
  line : Line
  alarms : AlarmList
  link : Link
  pending : List Instr
deriving DecidableEq, Repr

/-- The faults that stop the machine. The manual gives the HY4 none: what goes wrong in the yard is an alarm or a
refusal on the link, and the part goes on. No command raises one, so the type has no constructor; that is safe. -/
inductive Fault where
deriving DecidableEq, Repr

/-- Why the model gives a command no meaning. -/
inductive Refusal where
  /-- Raised by the dispatch for a command that has no meaning yet; none is left. Safe. -/
  | notModelled (mnemonic : String)
deriving DecidableEq, Repr

/-- The part right after its first power-on: a cold start (R181) at the release of the drives (R184), with the strap
open and the CLOCK-UNSET condition risen (R182). -/
def State.reset : State :=
  { supply := true
    part := .startUp
    retained := Retained.coldStart
    staged := Tables.default
    startUp := StartUp.start
    channels := Vector.replicate 21 (Channel.startUp false)
    points := Vector.replicate 64 Point.startUp
    returns := Vector.replicate 4 ReturnLine.startUp
    holders := Vector.replicate 4 (HolderRec.startUp 0)
    controls := Vector.replicate 4 HolderControl.startUp
    valves := Vector.replicate 8 (Valve.startUp false)
    plan := Plan.startUp
    meters := Vector.replicate 6 Meter.startUp
    check := Check.startUp
    districts := Vector.replicate 4 (District.startUp 2000 2000)
    press := Pressure.startUp
    booster := Booster.startUp
    stations := Vector.replicate 8 Station.startUp
    line := Line.startUp
    alarms := ⟨[⟨.clockUnset, 0, .raised, ⟨0, 0⟩, true, 0⟩], false, true⟩
    link := Link.startUp false
    pending := [] }

end Sys2Proof.Machine
end

