-- ==== Sys2Proof/Machine/Ops.lean ====
section
/-! DEFINITION. Machine/Ops.lean: the arithmetic of the Conventions, the standard-volume conversion, numbers as
bytes, and the records of State replaced one at a time. -/

namespace Sys2Proof.Machine

/-! ### Arithmetic -/

/-- Division rounded to the nearest integer, an exact half away from zero (00_scope.md, "Arithmetic"). -/
def roundDiv (n d : Int) : Int :=
  if 0 ≤ n then (2 * n + d) / (2 * d) else -((2 * (-n) + d) / (2 * d))

/-- A value clamped to a range (00_scope.md, "Arithmetic"). -/
def clamp (a b x : Int) : Int := if x < a then a else if b < x then b else x

/-- The standard-volume conversion of R40. -/
def stdVolume (v b p t : Int) : Int :=
  roundDiv (v * (clamp 90000 108000 b + clamp (-1000) 5000 p) * 28815)
    (101325 * (clamp (-3000) 5000 t + 27315))

/-- Whole seconds of a timer's ticks, rounded as the Conventions state (R53). -/
def seconds (ticks : Nat) : Nat := (2 * ticks + Config.ticksPerSecond) / (2 * Config.ticksPerSecond)

/-- A running timer one tick later. -/
def Timer.tick (t : Timer) : Timer := t.map (· + 1)

/-! ### Numbers as bytes (R193) -/

/-- The `n` low bytes of a number, most significant first. -/
def beBytes : Nat → Nat → List Byte
  | 0, _ => []
  | n + 1, x => BitVec.ofNat 8 (x / 256 ^ n) :: beBytes n x

/-- An unsigned figure in `n` bytes; the bytes of a figure too large for them are free (log entry 5). -/
def unsignedBytes (n : Nat) (x : Int) : List Byte :=
  if 0 ≤ x ∧ x < 256 ^ n then beBytes n x.toNat else (List.range n).map (Config.overflowByte n x)

/-- A signed figure in `n` bytes, two's complement; the bytes of a figure too large for them are free (log entry 5). -/
def signedBytes (n : Nat) (x : Int) : List Byte :=
  if -(256 ^ n) ≤ 2 * x ∧ 2 * x < 256 ^ n then beBytes n (x % 256 ^ n).toNat
  else (List.range n).map (Config.overflowByte n x)

/-- An absent or stopped item of `n` bytes. -/
def absentBytes (n : Nat) : List Byte := List.replicate n 0xFF

/-- A yes-or-no item. -/
def flagByte (b : Bool) : Byte := if b then 1 else 0

/-- The number that big-endian bytes spell. -/
def ofBytes (l : List Byte) : Nat := l.foldl (fun acc b => acc * 256 + b.toNat) 0

/-- The signed number that big-endian bytes spell. -/
def ofSignedBytes (l : List Byte) : Int :=
  if 2 * ofBytes l < 256 ^ l.length then (ofBytes l : Int) else (ofBytes l : Int) - 256 ^ l.length

/-! ### Words -/

/-- A word as its two bytes. -/
def wordBytes (w : Word16) : List Byte := [w.extractLsb' 8 8, w.extractLsb' 0 8]

/-! ### State, one record at a time -/

namespace State

/-- The active tables. -/
def tables (s : State) : Tables := s.retained.tables

def setChannel (s : State) (c : ChannelId) (r : Channel) : State := { s with channels := s.channels.set c r }
def setHolder (s : State) (h : HolderId) (r : HolderRec) : State := { s with holders := s.holders.set h r }
def setControl (s : State) (h : HolderId) (r : HolderControl) : State := { s with controls := s.controls.set h r }
def setValve (s : State) (v : ValveId) (r : Valve) : State := { s with valves := s.valves.set v r }
def setMeter (s : State) (p : PulseId) (r : Meter) : State := { s with meters := s.meters.set p r }
def setDistrict (s : State) (d : DistrictId) (r : District) : State := { s with districts := s.districts.set d r }
def setStation (s : State) (n : StationId) (r : Station) : State := { s with stations := s.stations.set n r }
def setPlan (s : State) (p : Plan) : State := { s with plan := p }
def setCheck (s : State) (c : Check) : State := { s with check := c }
def setBooster (s : State) (b : Booster) : State := { s with booster := b }
def setPress (s : State) (p : Pressure) : State := { s with press := p }
def setLine (s : State) (l : Line) : State := { s with line := l }
def setLink (s : State) (l : Link) : State := { s with link := l }
def setAlarms (s : State) (a : AlarmList) : State := { s with alarms := a }
/-- Retained memory written: the check word is refreshed in the same write (R180). -/
def setRetained (s : State) (r : Retained) : State := { s with retained := r.written }
def setAccount (s : State) (a : Account) : State := s.setRetained { s.retained with account := a }

/-- The Account Unit. -/
def account (s : State) : Account := s.retained.account

/-- The clock. -/
def clock (s : State) : Time := s.retained.clock

/-- A trim written to retained memory (R127, R138). -/
def setTrim (s : State) (d : DistrictId) (x : Int) : State :=
  s.setRetained { s.retained with trims := s.retained.trims.set d x }

end State

/-- A state carried through a list of things in order. -/
def inOrder {α : Type} (l : List α) (f : α → State → State) (s : State) : State := l.foldl (fun s a => f a s) s

end Sys2Proof.Machine
end

