-- ==== Sys2Proof/Machine/Operands.lean ====
section
/-! DEFINITION. Machine/Operands.lean: a request's code and body read into the command they spell (R188, R193). A field
takes the fewest of 1, 2 and 4 bytes that hold its range; a list is a one-byte count and its entries; an optional field
is there or not by the body's length. -/

namespace Sys2Proof.Machine

/-- What a well-formed frame's code and body say. -/
inductive Reading1 where
  /-- A code outside the catalogue (R188, test 1). -/
  | unknownCode
  /-- A body whose length does not fit the request (R188, test 2). -/
  | badLength
  | request (i : Instr)
deriving DecidableEq, Repr

/-- A body that must be empty. -/
def bare (i : Instr) (body : List Byte) : Reading1 := if body.isEmpty then .request i else .badLength

/-- A body of one one-byte field. -/
def oneByte (f : Nat → Instr) (body : List Byte) : Reading1 :=
  match body with
  | [a] => .request (f a.toNat)
  | _ => .badLength

/-- A body of one two-byte field. -/
def oneWord (f : Nat → Instr) (body : List Byte) : Reading1 :=
  match body with
  | [a, b] => .request (f (ofBytes [a, b]))
  | _ => .badLength

/-- A body of two one-byte fields. -/
def twoBytes (f : Nat → Nat → Instr) (body : List Byte) : Reading1 :=
  match body with
  | [a, b] => .request (f a.toNat b.toNat)
  | _ => .badLength

/-- A body of three one-byte fields. -/
def threeBytes (f : Nat → Nat → Nat → Instr) (body : List Byte) : Reading1 :=
  match body with
  | [a, b, c] => .request (f a.toNat b.toNat c.toNat)
  | _ => .badLength

/-- The body of TABLE-READ. -/
def fourBytes (f : Nat → Nat → Nat → Nat → Instr) (body : List Byte) : Reading1 :=
  match body with
  | [a, b, c, d] => .request (f a.toNat b.toNat c.toNat d.toNat)
  | _ => .badLength

/-- The optional sequence number of ACCOUNT-READ. -/
def accountReadBody (tag : Byte) (body : List Byte) : Reading1 :=
  match body with
  | [] => .request (.accountRead tag none)
  | [a, b] => .request (.accountRead tag (some (ofBytes [a, b])))
  | _ => .badLength

/-- The day and second of CLOCK-SET. -/
def clockSetBody (tag : Byte) (body : List Byte) : Reading1 :=
  match body with
  | [a, b, c, d, e, f] => .request (.clockSet tag (ofBytes [a, b]) (ofBytes [c, d, e, f]))
  | _ => .badLength

/-- The target, N and tolerance of CHECK-START. -/
def checkStartBody (tag : Byte) (body : List Byte) : Reading1 :=
  match body with
  | [t, a, b, c, d] => .request (.checkStart tag t.toNat (ofBytes [a, b]) (ofBytes [c, d]))
  | _ => .badLength

/-- The two lists of PLAN-SET. -/
def planSetBody (tag : Byte) (body : List Byte) : Reading1 :=
  match body with
  | [] => .badLength
  | n :: rest =>
    match rest.drop n.toNat with
    | [] => .badLength
    | m :: send =>
      if n.toNat ≤ rest.length ∧ send.length = m.toNat then
        .request (.planSet tag ((rest.take n.toNat).map BitVec.toNat) (send.map BitVec.toNat))
      else .badLength

/-- Bytes cut into 4-byte signed figures. -/
def figures : List Byte → List Int
  | a :: b :: c :: d :: rest => ofSignedBytes [a, b, c, d] :: figures rest
  | _ => []

/-- `n` entries of `k` figures each. -/
def entriesOf : Nat → Nat → List Int → List (List Int)
  | 0, _, _ => []
  | n + 1, k, l => l.take k :: entriesOf n k (l.drop k)

/-- The body of TABLE-WRITE. The length of an entry is known only for a table that exists, so a table number outside
1 to 12 is left to the request's own rule (log entry 11). -/
def tableWriteBody (tag : Byte) (body : List Byte) : Reading1 :=
  match body with
  | t :: first :: n :: rest =>
    let size := tableSize t.toNat
    if size.1 = 0 then .request (.tableWrite tag t.toNat first.toNat [])
    else if rest.length = 4 * size.2 * n.toNat then
      .request (.tableWrite tag t.toNat first.toNat (entriesOf n.toNat size.2 (figures rest)))
    else .badLength
  | _ => .badLength

/-- The request a frame's code, tag and body spell (the catalogue of R188). -/
def readRequest (code tag : Byte) (body : List Byte) : Reading1 :=
  match code.toNat with
  | 0x01 => bare (.yardStatus tag) body
  | 0x02 => oneByte (.holderRead tag) body
  | 0x03 => oneByte (.channelRead tag) body
  | 0x04 => bare (.contactRead tag) body
  | 0x05 => oneByte (.meterRead tag) body
  | 0x06 => oneByte (.districtRead tag) body
  | 0x07 => oneByte (.stationRead tag) body
  | 0x08 => bare (.lineResult tag) body
  | 0x09 => oneByte (.alarmRead tag) body
  | 0x0A => accountReadBody tag body
  | 0x0B => bare (.clockRead tag) body
  | 0x0C => fourBytes (.tableRead tag) body
  | 0x21 => clockSetBody tag body
  | 0x22 => tableWriteBody tag body
  | 0x23 => bare (.tableCommit tag) body
  | 0x24 => bare (.tableDiscard tag) body
  | 0x25 => planSetBody tag body
  | 0x26 => oneByte (.holderHold tag) body
  | 0x27 => oneByte (.holderFree tag) body
  | 0x28 => twoBytes (.holderOrder tag) body
  | 0x29 => oneByte (.valveConfirm tag) body
  | 0x2A => checkStartBody tag body
  | 0x2B => bare (.checkStop tag) body
  | 0x2C => bare (.boosterReset tag) body
  | 0x2D => bare (.lineHold tag) body
  | 0x2E => bare (.lineFree tag) body
  | 0x2F => threeBytes (.lineAsk tag) body
  | 0x30 => bare (.lineKill tag) body
  | 0x31 => bare (.lineRestart tag) body
  | 0x32 => threeBytes (.alarmAck tag) body
  | 0x33 => bare (.alarmAckAll tag) body
  | 0x34 => oneWord (.accountFree tag) body
  | 0x35 => bare (.restart tag) body
  | _ => .unknownCode

/-! ### Requests as a sender spells them -/

/-- A one-byte field. -/
def byteOf (x : Nat) : Byte := BitVec.ofNat 8 x

/-- A request's code, tag and body, as the catalogue of R188 and R193 lay them out; an event has none. -/
def requestParts (i : Instr) : Option (Byte × Byte × List Byte) :=
  match i with
  | .powerOn _ _ => none
  | .supplyLoss => none
  | .conversion _ _ => none
  | .scanCycleEnd _ _ _ => none
  | .stageDwellExpiry _ => none
  | .valveTravelTimeout _ => none
  | .gapTimerExpiry => none
  | .pulse _ => none
  | .intervalCounterStop _ => none
  | .checkTimeout => none
  | .clockAdvance => none
  | .tick => none
  | .boosterStartTimeout => none
  | .runOnExpiry => none
  | .outstationAskSent => none
  | .outstationByteReceived _ _ => none
  | .answerWindowClose => none
  | .readingAgeSecond => none
  | .pollTimerExpiry => none
  | .quietWindowEnd => none
  | .callBroadcastSent => none
  | .rollCallSlotClose => none
  | .hostByteReceived _ => none
  | .frameGapTimeout => none
  | .answerSent _ => none
  | .yardStatus tag => some (0x01, tag, [])
  | .holderRead tag h => some (0x02, tag, [byteOf h])
  | .channelRead tag c => some (0x03, tag, [byteOf c])
  | .contactRead tag => some (0x04, tag, [])
  | .meterRead tag c => some (0x05, tag, [byteOf c])
  | .districtRead tag d => some (0x06, tag, [byteOf d])
  | .stationRead tag n => some (0x07, tag, [byteOf n])
  | .lineResult tag => some (0x08, tag, [])
  | .alarmRead tag p => some (0x09, tag, [byteOf p])
  | .accountRead tag q => some (0x0A, tag, (q.map (beBytes 2)).getD [])
  | .clockRead tag => some (0x0B, tag, [])
  | .tableRead tag c t f n => some (0x0C, tag, [byteOf c, byteOf t, byteOf f, byteOf n])
  | .clockSet tag d x => some (0x21, tag, beBytes 2 d ++ beBytes 4 x)
  | .tableWrite tag t f es =>
    some (0x22, tag, byteOf t :: byteOf f :: byteOf es.length :: es.flatten.flatMap (signedBytes 4))
  | .tableCommit tag => some (0x23, tag, [])
  | .tableDiscard tag => some (0x24, tag, [])
  | .planSet tag f x => some (0x25, tag, byteOf f.length :: f.map byteOf ++ byteOf x.length :: x.map byteOf)
  | .holderHold tag h => some (0x26, tag, [byteOf h])
  | .holderFree tag h => some (0x27, tag, [byteOf h])
  | .holderOrder tag h o => some (0x28, tag, [byteOf h, byteOf o])
  | .valveConfirm tag v => some (0x29, tag, [byteOf v])
  | .checkStart tag t n p => some (0x2A, tag, byteOf t :: beBytes 2 n ++ beBytes 2 p)
  | .checkStop tag => some (0x2B, tag, [])
  | .boosterReset tag => some (0x2C, tag, [])
  | .lineHold tag => some (0x2D, tag, [])
  | .lineFree tag => some (0x2E, tag, [])
  | .lineAsk tag n f a => some (0x2F, tag, [byteOf n, byteOf f, byteOf a])
  | .lineKill tag => some (0x30, tag, [])
  | .lineRestart tag => some (0x31, tag, [])
  | .alarmAck tag t i k => some (0x32, tag, [byteOf t, byteOf i, byteOf k])
  | .alarmAckAll tag => some (0x33, tag, [])
  | .accountFree tag q => some (0x34, tag, beBytes 2 q)
  | .restart tag => some (0x35, tag, [])

/-- A request frame from its parts: lead, count, code, tag, body and CRC-16 (R187). -/
def requestFrame (code tag : Byte) (body : List Byte) : List Byte :=
  let covered := 0xC3 :: byteOf (2 + body.length) :: code :: tag :: body
  covered ++ wordBytes (crc16 covered)

end Sys2Proof.Machine
end

