-- ==== Sys2Proof/Machine/Flags.lean ====
section
/-! DEFINITION. Machine/Flags.lean: the alarm list with LIST-FULL and ATTENTION (10_alarm_list.md), and the gathering of
a period's flags (R158). -/

namespace Sys2Proof.Machine

/-! ### The catalogue -/

/-- A kind's number on the link, from 1 in the order of the catalogue (R197). -/
def AlarmKind.code : AlarmKind → Nat
  | .channelFault => 1
  | .returnStuck => 2
  | .stageDisagree => 3
  | .holderHigh => 4
  | .holderTop => 5
  | .holderLow => 6
  | .holderBottom => 7
  | .interlock => 8
  | .queueFlushed => 9
  | .valveFault => 10
  | .valveSlow => 11
  | .changeoverStuck => 12
  | .sendShort => 13
  | .meterSaturated => 14
  | .checkOut => 15
  | .checkDone => 16
  | .feedShort => 17
  | .boosterFailed => 18
  | .stationAbsent => 19
  | .stationStale => 20
  | .uagHigh => 21
  | .accountDrop => 22
  | .clockUnset => 23

/-- Every kind, in the order of the catalogue. -/
def allKinds : List AlarmKind :=
  [.channelFault, .returnStuck, .stageDisagree, .holderHigh, .holderTop, .holderLow, .holderBottom, .interlock,
    .queueFlushed, .valveFault, .valveSlow, .changeoverStuck, .sendShort, .meterSaturated, .checkOut, .checkDone,
    .feedShort, .boosterFailed, .stationAbsent, .stationStale, .uagHigh, .accountDrop, .clockUnset]

/-- The kind a code names. -/
def kindOfCode (n : Nat) : Option AlarmKind := allKinds.find? fun k => k.code == n

/-- The number of a kind's source type, from 1 in the order of the catalogue (R197). -/
def AlarmKind.sourceType : AlarmKind → Nat
  | .channelFault => 1
  | .returnStuck => 2
  | .stageDisagree => 3
  | .holderHigh => 3
  | .holderTop => 3
  | .holderLow => 3
  | .holderBottom => 3
  | .interlock => 3
  | .queueFlushed => 3
  | .valveFault => 4
  | .valveSlow => 4
  | .changeoverStuck => 5
  | .sendShort => 5
  | .meterSaturated => 6
  | .checkOut => 6
  | .checkDone => 7
  | .feedShort => 8
  | .boosterFailed => 9
  | .stationAbsent => 10
  | .stationStale => 10
  | .uagHigh => 11
  | .accountDrop => 11
  | .clockUnset => 12

/-- The first and last index of a source type, as the source's name gives them (R197). -/
def sourceRange : Nat → Option (Nat × Nat)
  | 1 => some (0, 20)
  | 2 => some (0, 3)
  | 3 => some (1, 4)
  | 4 => some (1, 8)
  | 5 => some (0, 0)
  | 6 => some (0, 5)
  | 7 => some (0, 0)
  | 8 => some (1, 4)
  | 9 => some (0, 0)
  | 10 => some (1, 8)
  | 11 => some (0, 0)
  | 12 => some (0, 0)
  | _ => none

/-! ### The list -/

/-- Whether an entry is that of a kind and source. -/
def AlarmEntry.names (e : AlarmEntry) (k : AlarmKind) (i : Nat) : Bool := decide (e.kind = k ∧ e.index = i)

namespace AlarmList

/-- The entry of a kind and source, if listed. -/
def lookup (l : AlarmList) (k : AlarmKind) (i : Nat) : Option AlarmEntry := l.entries.find? fun e => e.names k i

/-- The entry of a kind and source changed in its place. -/
def change (l : AlarmList) (k : AlarmKind) (i : Nat) (f : AlarmEntry → AlarmEntry) : AlarmList :=
  { l with entries := l.entries.map fun e => if e.names k i then f e else e }

/-- The entry of a kind and source removed with none in its place, which clears LIST-FULL (R176). -/
def remove (l : AlarmList) (k : AlarmKind) (i : Nat) : AlarmList :=
  { l with entries := l.entries.filter fun e => !e.names k i, listFull := false }

/-- A new entry at the tail; a full list evicts its oldest ENDED entry, or leaves the alarm unlisted and sets
LIST-FULL (R176). -/
def append (l : AlarmList) (e : AlarmEntry) : AlarmList :=
  if l.entries.length < Config.alarmCapacity then { l with entries := l.entries ++ [e] }
  else if l.entries.any (fun x => x.state == .ended) then
    { l with entries := l.entries.eraseP (fun x => x.state == .ended) ++ [e] }
  else { l with listFull := true }

/-- Repeats rise by 1, no further than 65,535 (R172). -/
def again (e : AlarmEntry) : AlarmEntry := { e with repeats := min 65535 (e.repeats + 1) }

/-- The rise of a condition (R173). -/
def rise (l : AlarmList) (k : AlarmKind) (i : Nat) (t : Time) (unset : Bool) : AlarmList :=
  match l.lookup k i with
  | none => l.append ⟨k, i, .raised, t, unset, 0⟩
  | some e => if e.state = .ended then l.change k i fun e => { again e with state := .raised } else l

/-- The end of a condition (R173). -/
def finish (l : AlarmList) (k : AlarmKind) (i : Nat) : AlarmList :=
  match l.lookup k i with
  | none => l
  | some e =>
    match e.state with
    | .raised => l.change k i fun e => { e with state := .ended }
    | .standing => l.remove k i
    | .ended => l

/-- One occurrence of a momentary alarm (R174). -/
def moment (l : AlarmList) (k : AlarmKind) (i : Nat) (t : Time) (unset : Bool) : AlarmList :=
  match l.lookup k i with
  | none => l.append ⟨k, i, .ended, t, unset, 0⟩
  | some _ => l.change k i again

/-- The acknowledgement of one listed entry (R175). -/
def acknowledge (l : AlarmList) (k : AlarmKind) (i : Nat) : AlarmList :=
  match l.lookup k i with
  | none => l
  | some e =>
    match e.state with
    | .raised => l.change k i fun e => { e with state := .standing }
    | .ended => l.remove k i
    | .standing => l

/-- The acknowledgement of every entry (R175). -/
def acknowledgeAll (l : AlarmList) : AlarmList :=
  { l with
    entries := (l.entries.filter fun e => e.state != .ended).map fun e => { e with state := .standing }
    listFull := l.listFull && !l.entries.any (fun e => e.state == .ended) }

/-- ATTENTION as R177 judges it at each change of the list. -/
def judged (l : AlarmList) : AlarmList := { l with attention := l.entries.any fun e => e.state != .standing }

end AlarmList

/-! ### Deliveries to the list -/

/-- A condition rises (R173). -/
def raiseAlarm (k : AlarmKind) (i : Nat) (s : State) : State :=
  s.setAlarms (s.alarms.rise k i s.clock (!s.retained.clockSet)).judged

/-- A condition ends (R173). -/
def endAlarm (k : AlarmKind) (i : Nat) (s : State) : State := s.setAlarms (s.alarms.finish k i).judged

/-- A momentary alarm occurs (R174). -/
def momentAlarm (k : AlarmKind) (i : Nat) (s : State) : State :=
  s.setAlarms (s.alarms.moment k i s.clock (!s.retained.clockSet)).judged

/-- The rise or end that a condition's change from `before` to `after` delivers. -/
def alarmChange (k : AlarmKind) (i : Nat) (before after : Bool) (s : State) : State :=
  if !before && after then raiseAlarm k i s else if before && !after then endAlarm k i s else s

/-! ### The flags of the open periods -/

/-- Every flag of either set. -/
def Flags.union (a b : Flags) : Flags :=
  { clockSet := a.clockSet || b.clockSet, configChanged := a.configChanged || b.configChanged,
    powerGap := a.powerGap || b.powerGap, estimated := a.estimated || b.estimated,
    saturated := a.saturated || b.saturated, makeHold := a.makeHold || b.makeHold,
    sendShort := a.sendShort || b.sendShort }

/-- A flag set in the open hour and the open day of a RUNNING Account Unit (R158). -/
def markPeriods (f : Flags) (s : State) : State :=
  if s.account.running then
    s.setAccount { s.account with
      hour := s.account.hour.map fun h => { h with flags := h.flags.union f }
      day := s.account.day.map fun d => { d with flags := d.flags.union f } }
  else s

/-- The flag each delivery sets. -/
def Flags.ofEstimated : Flags := { Flags.none with estimated := true }
def Flags.ofSaturated : Flags := { Flags.none with saturated := true }
def Flags.ofMakeHold : Flags := { Flags.none with makeHold := true }
def Flags.ofSendShort : Flags := { Flags.none with sendShort := true }
def Flags.ofClockSet : Flags := { Flags.none with clockSet := true }
def Flags.ofConfigChanged : Flags := { Flags.none with configChanged := true }
def Flags.ofPowerGap : Flags := { Flags.none with powerGap := true }

end Sys2Proof.Machine
end

