-- ==== Sys2Proof/Machine/Channels.lean ====
section
/-! DEFINITION. Machine/Channels.lean: the Channel Unit (01_measurement_channels.md). -/

namespace Sys2Proof.Machine

/-- The fault judged from a raw count (R3). -/
def faultOf (e : ChannelEntry) (raw : Nat) : LoopFault :=
  if (raw : Int) < e.openThreshold then .openLoop
  else if e.shortThreshold < (raw : Int) then .shortLoop
  else .noFault

/-- A raw count scaled to the channel's unit and clamped (R4). -/
def scaled (e : ChannelEntry) (raw : Nat) : Int :=
  clamp e.zero (e.zero + e.span) (e.zero + roundDiv (((raw : Int) - 10923) * e.span) 43690)

/-- The smoothing step (R5). -/
def smoothStep (e : ChannelEntry) (r : Channel) (value : Int) : Int :=
  if r.seed then value else r.smoothed + roundDiv (value - r.smoothed) (2 ^ e.shift.toNat)

/-- The status of a channel in fault (R7). -/
def faultStatus (e : ChannelEntry) (lastGood : Option Nat) (age : Nat) : ChannelStatus :=
  if lastGood.isNone then .stale else if (age : Int) ≤ 4 * e.staleLimit then .held else .stale

/-- The record after a good reading (R6). -/
def goodConversion (e : ChannelEntry) (r : Channel) (raw : Nat) : Channel :=
  { raw := raw, lastGood := some raw, value := scaled e raw, smoothed := smoothStep e r (scaled e raw), seed := false,
    status := .valid, fault := .noFault, age := 0 }

/-- The record after a faulted reading (R7). -/
def faultedConversion (e : ChannelEntry) (r : Channel) (raw : Nat) (f : LoopFault) : Channel :=
  let age := min 65535 (r.age + 1)
  { r with raw := raw, seed := true, fault := f, age := age, status := faultStatus e r.lastGood age }

/-- The record after a conversion (R2, R3, R9). -/
def converted (e : ChannelEntry) (r : Channel) (raw : Nat) : Channel :=
  if isYes e.enabled then
    match faultOf e raw with
    | .noFault => goodConversion e r raw
    | f => faultedConversion e r raw f
  else { r with raw := raw }

/-- A conversion of one channel, with its CHANNEL-FAULT condition (R6, R8): the condition stands while the record
shows a fault. -/
def convertChannel (c : ChannelId) (raw : Nat) (s : State) : State :=
  let r := s.channels[c]
  let r' := converted s.tables.channel[c] r raw
  alarmChange .channelFault c.val (r.fault != .noFault) (r'.fault != .noFault) (s.setChannel c r')

/-- Whether a channel gives a figure of its own: VALID or HELD (R10). -/
def Channel.usable (r : Channel) : Bool := r.status == .valid || r.status == .held

/-- A channel's figure, or the default its kind has in place of a STALE or OFF one (R10). -/
def Channel.figure (r : Channel) (default : Int) : Int := if r.usable then r.smoothed else default

/-- The default for a barometer (R10). -/
def defaultBarometer : Int := 101325

/-- The default for a temperature (R10). -/
def defaultTemperature : Int := 1500

/-! ### Commit (R12) -/

/-- The figures scaled afresh from the last good reading where zero or span changed (R12). -/
def rescaled (old new : ChannelEntry) (r : Channel) : Channel :=
  if old.zero = new.zero ∧ old.span = new.span then r
  else
    match r.lastGood with
    | some raw => { r with value := scaled new raw, smoothed := scaled new raw }
    | none => r

/-- The status judged again where the stale limit changed (R12). -/
def rejudged (old new : ChannelEntry) (r : Channel) : Channel :=
  if old.staleLimit ≠ new.staleLimit ∧ 0 < r.age ∧ r.lastGood.isSome then
    { r with status := faultStatus new r.lastGood r.age }
  else r

/-- A channel record brought from its old entry to its new one: the first case that applies, but for a channel that
stays enabled each of the last three that does (R12). A channel enabled afresh has value and smoothed value 0 until its
first good conversion, as "The channel record" states (01_measurement_channels.md). -/
def recommitted (old new : ChannelEntry) (r : Channel) : Channel :=
  if old = new then r
  else if isYes old.enabled && !isYes new.enabled then
    { r with status := .off, fault := .noFault, age := 0, lastGood := none, seed := true }
  else if !isYes old.enabled && isYes new.enabled then
    { r with value := 0, smoothed := 0, status := .stale, fault := .noFault, age := 0, lastGood := none, seed := true }
  else if !isYes new.enabled then r
  else rejudged old new (rescaled old new r)

/-- Every channel brought to the new CHANNEL table, ending CHANNEL-FAULT where a channel becomes OFF, C0 to C20 (log
entry 57). -/
def commitChannels (old : Tables) (s : State) : State :=
  inOrder allChannels (fun c s =>
    let r := s.channels[c]
    let r' := recommitted old.channel[c] s.tables.channel[c] r
    alarmChange .channelFault c.val (r.fault != .noFault) (r'.fault != .noFault) (s.setChannel c r')) s

end Sys2Proof.Machine
end

