-- ==== Sys2Proof/Machine/Contacts.lean ====
section
/-! DEFINITION. Machine/Contacts.lean: the Contact Scanner (02_contact_matrix.md). -/

namespace Sys2Proof.Machine

/-- The return line of a contact: K(4s + c) sits on line c (00_scope.md, "Names"). -/
def returnOf (k : PointId) : ReturnId := ⟨k.val % 4, by omega⟩

/-- A return line judged from its quiet reading (R16). -/
def judgeReturn (r : ReturnLine) (quiet : Bool) : ReturnLine :=
  match r.stuck, quiet, r.run with
  | false, false, _ => ⟨false, false⟩
  | false, true, false => ⟨false, true⟩
  | false, true, true => ⟨true, false⟩
  | true, true, _ => ⟨true, false⟩
  | true, false, false => ⟨true, true⟩
  | true, false, true => ⟨false, false⟩

/-- Whether a cycle qualifies on a line depends only on its quiet reading (R16). -/
def qualifies (quiet : Bool) : Bool := !quiet

/-- The debounce of one contact (R18). -/
def debounce (p : Point) (reading : Reading) (qualified : Bool) : Point :=
  let p := { p with reading := reading }
  if !qualified then { p with candidate := none }
  else if p.debounced = some reading then { p with candidate := none }
  else if p.candidate = some reading then { p with debounced := some reading, candidate := none }
  else { p with candidate := some reading }

/-- The debounced state read through the polarity (R19); polarity 1 is BROKEN-ACTIVE. -/
def activeOf (e : ContactEntry) (debounced : Option Reading) : Bool :=
  debounced == some (if e.polarity = 1 then Reading.broken else Reading.made)

/-- Validity and active state after debouncing (R19). -/
def judgePoint (e : ContactEntry) (stuck : Bool) (p : Point) : Point :=
  { p with valid := !stuck && p.debounced.isSome, active := activeOf e p.debounced }

/-- The pair a point shows. -/
def Point.pair (p : Point) : Pair := ⟨p.active, p.valid⟩

/-- What an owning block is delivered for one use: a pair, or the removal of the use (R20, R22). -/
structure Delivery where
  use : Watch
  pair : Option Pair
deriving DecidableEq, Repr

/-- The pair a delivery leaves at its owner: a removed use has no contact and reads neither active nor valid. -/
def Delivery.left (d : Delivery) : Pair := d.pair.getD Pair.startUp

/-- The pair last delivered for a use, inactive and not valid where no point has the use. -/
def usePair (s : State) (w : Watch) : Pair :=
  match s.tables.pointOf w with
  | some k => s.points[k].delivered
  | none => Pair.startUp

/-- The return lines after a cycle's quiet readings, with RETURN-STUCK (R16, R17). Those of several lines reach the
Alarm List in the order A to D (log entry 33). -/
def judgeReturns (quiet : BitVec 4) (s : State) : State :=
  inOrder allReturns (fun i s =>
    let r := s.returns[i]
    let r' := judgeReturn r (quiet.getLsbD i.val)
    alarmChange .returnStuck i.val r.stuck r'.stuck { s with returns := s.returns.set i r' }) s

/-- A point after the cycle's readings, the return lines being already judged (R15). -/
def scannedPoint (s : State) (made : BitVec 64) (quiet : BitVec 4) (k : PointId) : Point :=
  judgePoint s.tables.contact[k] s.returns[returnOf k].stuck
    (debounce s.points[k] (if made.getLsbD k.val then .made else .broken) (qualifies (quiet.getLsbD (returnOf k).val)))

/-- The changes of assigned points against the pairs last delivered (R20). -/
def changesOf (s : State) : List Delivery :=
  allPoints.filterMap fun k =>
    let p : Point := s.points[k]
    let w : Watch := s.tables.contact[k].watches
    if w ≠ Watch.nothing ∧ p.pair ≠ p.delivered then some (Delivery.mk w (some p.pair)) else none

/-- Every assigned point's pair marked as delivered. -/
def markDelivered (s : State) : State :=
  { s with points := Vector.ofFn fun k =>
      if s.tables.contact[k].watches ≠ .nothing then { s.points[k] with delivered := s.points[k].pair }
      else s.points[k] }

/-- The scanner's part of a cycle end: steps 1 to 3 of R15, and the deliveries of step 4. -/
def scanCycle (made : BitVec 64) (quiet : BitVec 4) (s : State) : State × List Delivery :=
  let s := judgeReturns quiet s
  let s := { s with points := Vector.ofFn (scannedPoint s made quiet) }
  (markDelivered s, changesOf s)

/-! ### Commit (R22) -/

/-- The removals and pairs a commit delivers for the points whose entries changed. -/
def commitDeliveries (old : Tables) (s : State) : List Delivery :=
  allPoints.flatMap fun k =>
    let was : ContactEntry := old.contact[k]
    let now : ContactEntry := s.tables.contact[k]
    if was = now then []
    else
      (if was.watches ≠ Watch.nothing ∧ s.tables.assigned was.watches = false then [Delivery.mk was.watches none]
        else []) ++
      (if now.watches ≠ Watch.nothing then [Delivery.mk now.watches (some s.points[k].pair)] else [])

/-- Whether a commit changes a point's entry. -/
def entryChanged (old new : Tables) (k : PointId) : Bool := old.contact[k] != new.contact[k]

/-- A point after a commit, with its active state worked afresh where its entry changed. -/
def repolarised (old : Tables) (s : State) (k : PointId) : Point :=
  let p : Point := s.points[k]
  if entryChanged old s.tables k then { p with active := activeOf s.tables.contact[k] p.debounced } else p

/-- A point's last delivered pair after a commit. -/
def redelivered (old : Tables) (s : State) (k : PointId) : Point :=
  let p : Point := s.points[k]
  if entryChanged old s.tables k && s.tables.contact[k].watches != .nothing then { p with delivered := p.pair } else p

/-- The scanner's part of a commit, with its deliveries. -/
def commitContacts (old : Tables) (s : State) : State × List Delivery :=
  let s := { s with points := Vector.ofFn (repolarised old s) }
  ({ s with points := Vector.ofFn (redelivered old s) }, commitDeliveries old s)

end Sys2Proof.Machine
end

