-- ==== Sys2Proof/Machine/Holders.lean ====
section
/-! DEFINITION. Machine/Holders.lean: the Holder Unit (03_holders_and_stock.md): geometry, stage, limits, pressure and
stock of a holder record. What a judgment delivers to other blocks is in Machine/Cascade.lean. -/

namespace Sys2Proof.Machine

/-! ### Geometry (R26, R27) -/

/-- The holder's full height H_n. -/
def fullHeight (ls : List LiftEntry) : Int := (ls.map LiftEntry.travel).sum

/-- The volume of the lifts from the one whose rest is at height `base` outward, for a crown at `h`. -/
def volumeFrom : List LiftEntry → Int → Int → Int
  | [], _, _ => 0
  | l :: ls, base, h => roundDiv (l.area * clamp 0 l.travel (h - base)) 100 + volumeFrom ls (base + l.travel) h

/-- The volume held at holder conditions for a crown height (R27). -/
def volumeAt (ls : List LiftEntry) (h : Int) : Int := volumeFrom ls 0 h

/-- The volume with every lift fully raised (R27). -/
def capacityOf (ls : List LiftEntry) : Int := (ls.map fun l => roundDiv (l.area * l.travel) 100).sum

/-! ### The three stage sources (R28 to R30) -/

/-- The smallest k with h no more than H_k, counting on from lift `k` whose rest is at `base`. -/
def stageFromHeight : List LiftEntry → Int → Nat → Int → Nat
  | [], _, k, _ => k - 1
  | l :: ls, base, k, h => if h ≤ base + l.travel then k else stageFromHeight ls (base + l.travel) (k + 1) h

/-- The height stage (R28). -/
def judgedHeightStage (t : Tables) (h : HolderId) (r : HolderRec) : Option Nat :=
  if !r.usable then none
  else if r.height ≤ t.limit[h].landing then some 0
  else some (stageFromHeight (t.lifts h) 0 1 r.height)

/-- The switch stage (R29). A cup use with no contact has a pair that is not valid. -/
def judgedSwitchStage (t : Tables) (h : HolderId) (r : HolderRec) : Option Nat :=
  let cups := r.cups.toList.take ((t.lifts h).length - 1)
  if cups.all Pair.valid then
    let up := cups.takeWhile Pair.active
    if (cups.drop up.length).all (fun p => !p.active) then some (1 + up.length) else none
  else none

/-- The stage whose stage pressure lies nearest, the lower on a tie: `best` at distance `gap` so far (R30). -/
def nearestStage (p : Int) : List LiftEntry → Nat → Nat → Int → Nat
  | [], _, best, _ => best
  | l :: ls, k, best, gap =>
    if |p - l.pressure| < gap then nearestStage p ls (k + 1) k |p - l.pressure|
    else nearestStage p ls (k + 1) best gap

/-- The pressure stage of a measured pressure (R30). -/
def stageFromPressure (ls : List LiftEntry) (p : Int) : Nat :=
  match ls with
  | [] => 0
  | l :: rest => if 2 * p < l.pressure then 0 else nearestStage p rest 2 1 |p - l.pressure|

/-- The pressure stage (R30). -/
def judgedPressureStage (t : Tables) (c : Channel) (h : HolderId) : Option Nat :=
  if c.usable then some (stageFromPressure (t.lifts h) c.smoothed) else none

/-- What one source gives. -/
def HolderRec.stageOf (r : HolderRec) : StageSource → Option Nat
  | .height => r.heightStage
  | .switch => r.switchStage
  | .pressure => r.pressureStage
  | .nowhere => none

/-- The selected stage: the named source if valid, else the first valid of HEIGHT, SWITCH and PRESSURE (R31). -/
def selectStage (named : StageSource) (r : HolderRec) : HolderRec :=
  match [named, .height, .switch, .pressure].find? fun src => (r.stageOf src).isSome with
  | some src => { r with selected := (r.stageOf src).getD r.selected, stageFrom := src }
  | none => { r with stageFrom := .nowhere }

/-- Two stages agree when equal (R32). -/
def sameStage (a b : Option Nat) : Bool :=
  match a, b with
  | some x, some y => x == y
  | _, _ => true

/-- A switch stage agrees with another when equal, or when it is 1 and the other LANDED (R32). -/
def switchAgrees (sw other : Option Nat) : Bool :=
  match sw, other with
  | some x, some y => x == y || (x == 1 && y == 0)
  | _, _ => true

/-- Whether the valid sources agree (R32). -/
def HolderRec.agrees (r : HolderRec) : Bool :=
  sameStage r.heightStage r.pressureStage && switchAgrees r.switchStage r.heightStage &&
    switchAgrees r.switchStage r.pressureStage

/-- The disagreement timer and the clearing of STAGE-DISAGREE after a judgment of a source (R32, R33). -/
def judgeAgreement (r : HolderRec) : HolderRec :=
  if r.agrees then { r with disagreeTimer := none, disagree := false }
  else { r with disagreeTimer := some (r.disagreeTimer.getD 0) }

/-- What follows every judgment of a source. -/
def sourcesJudged (t : Tables) (h : HolderId) (r : HolderRec) : HolderRec :=
  judgeAgreement (selectStage (t.stageSource h) r)

/-! ### Limits (R35 to R37) -/

/-- A limit that sets at or beyond one height and clears beyond another, both tests given. -/
def hysteresis (held sets clears : Bool) : Bool := if held then !clears else sets

/-- A crown contact counts as active only while it is valid (R36). -/
def Pair.proved (p : Pair) : Bool := p.active && p.valid

/-- TOP and BOTTOM from the height and the crown contacts, or from the contacts alone while the height is not usable
(R36, R37). -/
def judgeTop (l : LimitEntry) (r : HolderRec) : Bool :=
  if r.usable then
    hysteresis r.top (decide (l.top ≤ r.height) || r.crownTop.proved)
      (decide (r.height < l.top - l.hysteresis) && !r.crownTop.proved)
  else r.crownTop.proved

def judgeBottom (l : LimitEntry) (r : HolderRec) : Bool :=
  if r.usable then
    hysteresis r.bottom (decide (r.height ≤ l.bottom) || r.crownBottom.proved)
      (decide (l.bottom + l.hysteresis < r.height) && !r.crownBottom.proved)
  else r.crownBottom.proved

/-- All four limits at a height judgment (R35 to R37). -/
def judgeLimits (l : LimitEntry) (r : HolderRec) : HolderRec :=
  { r with
    high := if r.usable then
        hysteresis r.high (decide (l.high ≤ r.height)) (decide (r.height < l.high - l.hysteresis))
      else r.high
    low := if r.usable then
        hysteresis r.low (decide (r.height ≤ l.low)) (decide (l.low + l.hysteresis < r.height))
      else r.low
    top := judgeTop l r
    bottom := judgeBottom l r }

/-! ### Pressure and stock (R39 to R42) -/

/-- The working pressure (R39). -/
def workingPressure (t : Tables) (c : Channel) (h : HolderId) (selected : Nat) : Int :=
  if c.usable then c.smoothed else t.stagePressure h selected

/-- The working pressure judged afresh. -/
def judgePressure (s : State) (h : HolderId) (r : HolderRec) : HolderRec :=
  { r with pressure := workingPressure s.tables s.channels[pressureChannel h] h r.selected }

/-- Whether the height, pressure and temperature channels and the barometer are all VALID (R42). -/
def allValid (s : State) (h : HolderId) : Bool :=
  s.channels[heightChannel h].status == .valid && s.channels[pressureChannel h].status == .valid &&
    s.channels[temperatureChannel h].status == .valid && s.channels[barometer].status == .valid

/-- A recomputation of volume and stock (R41, R42). -/
def recompute (s : State) (h : HolderId) (r : HolderRec) : HolderRec :=
  if r.usable then
    let v := volumeAt (s.tables.lifts h) r.height
    { r with
      volume := v
      stock := stdVolume v (s.channels[barometer].figure defaultBarometer) r.pressure
        (s.channels[temperatureChannel h].figure defaultTemperature)
      worked := true
      estimated := !allValid s h }
  else { r with estimated := true }

/-- A working pressure moved by a change of the selected stage recomputes the stock (R41). -/
def repressured (s : State) (h : HolderId) (before : HolderRec) (r : HolderRec) : HolderRec :=
  let r := judgePressure s h r
  if r.pressure = before.pressure then r else recompute s h r

/-! ### The judgments of a holder -/

/-- The height taken from its channel while usable (R26). -/
def takeHeight (s : State) (h : HolderId) (r : HolderRec) : HolderRec :=
  let c : Channel := s.channels[heightChannel h]
  if c.usable then { r with height := clamp 0 (fullHeight (s.tables.lifts h)) c.smoothed, usable := true }
  else { r with usable := false }

/-- A conversion of the height channel. -/
def heightJudged (s : State) (h : HolderId) (r : HolderRec) : HolderRec :=
  let r := takeHeight s h r
  let r := sourcesJudged s.tables h { r with heightStage := judgedHeightStage s.tables h r }
  recompute s h (judgePressure s h (judgeLimits s.tables.limit[h] r))

/-- A conversion of the pressure channel. -/
def pressureJudged (s : State) (h : HolderId) (r : HolderRec) : HolderRec :=
  let r := sourcesJudged s.tables h
    { r with pressureStage := judgedPressureStage s.tables s.channels[pressureChannel h] h }
  recompute s h (judgePressure s h r)

/-- A contact event that carries one of the holder's cup uses (R29). -/
def cupsJudged (s : State) (h : HolderId) (r : HolderRec) : HolderRec :=
  repressured s h r (sourcesJudged s.tables h { r with switchStage := judgedSwitchStage s.tables h r })

/-- A contact event that carries the holder's crown uses (R36, R37). -/
def crownJudged (s : State) (h : HolderId) (top bottom : Bool) (r : HolderRec) : HolderRec :=
  let l := s.tables.limit[h]
  { r with top := if top then judgeTop l r else r.top, bottom := if bottom then judgeBottom l r else r.bottom }

/-- The three sources judged at once. -/
def allSources (s : State) (h : HolderId) (r : HolderRec) : HolderRec :=
  sourcesJudged s.tables h
    { r with
      heightStage := judgedHeightStage s.tables h r
      switchStage := judgedSwitchStage s.tables h r
      pressureStage := judgedPressureStage s.tables s.channels[pressureChannel h] h }

/-- The judgment of the start-up's evaluation of limits (R47). -/
def startUpJudged (s : State) (h : HolderId) (r : HolderRec) : HolderRec :=
  recompute s h (judgePressure s h (judgeLimits s.tables.limit[h] (allSources s h (takeHeight s h r))))

/-- The expiry of a running disagreement timer (R33). -/
def dwellExpired (r : HolderRec) : HolderRec :=
  if r.disagreeTimer.isSome then { r with disagreeTimer := none, disagree := true } else r

/-- A timer that has already reached the new dwell expires at the commit (R46). -/
def dwellAtCommit (t : Tables) (h : HolderId) (r : HolderRec) : HolderRec :=
  match r.disagreeTimer with
  | some e => if t.holder[h].dwell * Config.ticksPerSecond ≤ (e : Int) then dwellExpired r else r
  | none => r

/-- A configured holder brought to the new tables (R46), its working pressure judged afresh at every commit (log entry
59). -/
def commitJudged (s : State) (h : HolderId) (r : HolderRec) : HolderRec :=
  let cap := capacityOf (s.tables.lifts h)
  let taken := takeHeight s h { r with capacity := cap }
  let judged := judgePressure s h (allSources s h taken)
  let stocked :=
    if judged.usable then recompute s h judged
    else
      let moved := if judged.pressure = r.pressure then judged else recompute s h judged
      { moved with volume := clamp 0 cap moved.volume }
  dwellAtCommit s.tables h (judgeLimits s.tables.limit[h] stocked)

/-- A holder record with one use's pair taken in. -/
def HolderRec.takePair (r : HolderRec) (h : HolderId) (d : Delivery) : HolderRec :=
  match d.use with
  | .cup h' i => if h' = h then { r with cups := r.cups.set i d.left } else r
  | .crownTop h' => if h' = h then { r with crownTop := d.left } else r
  | .crownBottom h' => if h' = h then { r with crownBottom := d.left } else r
  | _ => r

/-- Whether a delivery carries a cup use of the holder. -/
def Delivery.isCup (d : Delivery) (h : HolderId) : Bool :=
  match d.use with
  | .cup h' _ => h' == h
  | _ => false

/-- The alarms of a holder's conditions, from one record to the next (R34, R38), in an order of the model's:
STAGE-DISAGREE, HIGH, TOP, LOW, BOTTOM (log entry 34). -/
def holderAlarms (h : HolderId) (before after : HolderRec) (s : State) : State :=
  let n := number h
  alarmChange .holderBottom n before.bottom after.bottom <| alarmChange .holderLow n before.low after.low <|
  alarmChange .holderTop n before.top after.top <| alarmChange .holderHigh n before.high after.high <|
  alarmChange .stageDisagree n before.disagree after.disagree s

/-- A holder record put in place, with its alarms. -/
def putHolder (h : HolderId) (r : HolderRec) (s : State) : State :=
  holderAlarms h s.holders[h] r (s.setHolder h r)

/-- Whether a record's change is a holder event at the Yard Plan: height usable, STAGE-DISAGREE or a limit (R77). -/
def planSees (before after : HolderRec) : Bool :=
  before.usable != after.usable || before.disagree != after.disagree || before.high != after.high ||
    before.top != after.top || before.low != after.low || before.bottom != after.bottom

end Sys2Proof.Machine
end

