-- ==== Sys2Proof/Machine/Meters.lean ====
section
/-! DEFINITION. Machine/Meters.lean: the Meter Unit (06_meter_counting.md): windows, intervals, rates and the check
measurement. -/

namespace Sys2Proof.Machine

/-- The window count: 65,536 times the overflow stage plus the counter (R100). -/
def Meter.count (m : Meter) : Nat := (if m.stage then 65536 else 0) + m.counter

/-- A pulse at the window (R102). -/
def Meter.countPulse (m : Meter) : Meter :=
  if m.saturated then m
  else if m.counter < 65535 then { m with counter := m.counter + 1 }
  else if m.stage then { m with saturated := true }
  else { m with counter := 0, stage := true }

/-- A pulse at the interval counter (R107). -/
def Meter.timePulse (m : Meter) : Meter := { m with lastInterval := m.interval.map (max 1), interval := some 0 }

/-- The running interval counter stops at its limit (R107). -/
def Meter.stopInterval (m : Meter) : Meter :=
  if m.interval.isSome then { m with interval := none, lastInterval := none } else m

/-! ### Minute windows -/

/-- A volume at a meter under its pressure, temperature and barometer figures as they stand (R104). Between a commit and
a changed channel's next conversion they are the new figures at once (log entry 45). -/
def meterVolume (s : State) (p : PulseId) (actual : Int) : Int :=
  stdVolume actual (s.channels[barometer].figure defaultBarometer) (s.channels[meterPressureChannel p].figure 0)
    (s.channels[meterTemperatureChannel p].figure defaultTemperature)

/-- Whether any of a meter's three conditions is not VALID as they stand (R104), after a commit at once (log entry 45).
-/
def meterEstimated (s : State) (p : PulseId) : Bool :=
  s.channels[barometer].status != .valid || s.channels[meterPressureChannel p].status != .valid ||
    s.channels[meterTemperatureChannel p].status != .valid

/-- The standard volume of the open window under a table's pulse volume (R104). -/
def windowVolume (t : Tables) (s : State) (p : PulseId) : Int :=
  meterVolume s p ((s.meters[p].count : Int) * t.meter[p].pulseVolume)

/-- A meter record after its window has closed; `minute` says whether a minute end closed it (R104, R105). -/
def Meter.closed (m : Meter) (minute : Bool) (volume : Int) (estimated : Bool) : Meter :=
  { m with
    counter := 0, stage := false, saturated := false, full := minute
    lastFull := if minute && m.full then some m.count else m.lastFull
    lastVolume := some volume
    lastEstimated := estimated }

/-- A closed window's volume added to the channel's hour accumulator (R104). P5 has none. -/
def addVolume (p : PulseId) (volume : Int) (s : State) : State :=
  match fromIndex 5 p.val with
  | some i =>
    if s.account.running then
      s.setAccount { s.account with accumulators := upd s.account.accumulators i (· + volume) }
    else s
  | none => s

/-- One enabled channel's window closed under the entries of `t` (R104). A window with no pulse delivers no estimated
mark, and P5 marks no period. -/
def closeWindow (t : Tables) (minute : Bool) (p : PulseId) (s : State) : State :=
  let m : Meter := s.meters[p]
  let volume := windowVolume t s p
  let estimated := meterEstimated s p
  let s := addVolume p volume (s.setMeter p (m.closed minute volume estimated))
  if estimated && decide (0 < m.count) && decide (p.val < 5) then markPeriods Flags.ofEstimated s else s

/-- Every enabled channel's window closed under `t`, at a minute end or early (R104, R105). -/
def closeWindows (t : Tables) (minute : Bool) (s : State) : State :=
  inOrder allPulses (fun p s => if t.meterOn p then closeWindow t minute p s else s) s

/-! ### Rate (R108) -/

/-- Which figure a rate rests on (R117). -/
inductive RateBasis where
  | countBased | intervalBased | zero
deriving DecidableEq, Repr

/-- The rate of a channel in L/h, with its basis. -/
def rateOf (t : Tables) (s : State) (p : PulseId) : Int × RateBasis :=
  let m : Meter := s.meters[p]
  let volume := t.meter[p].pulseVolume
  if !t.meterOn p then (0, .zero)
  else
    match m.lastFull, m.interval, m.lastInterval with
    | some n, i, l =>
      if 60 ≤ n then (roundDiv ((n : Int) * volume * 60) 1000, .countBased)
      else
        match i, l with
        | some i, some l => (roundDiv (volume * 36000) ((max l i : Nat) : Int), .intervalBased)
        | _, _ => (0, .zero)
    | none, some i, some l => (roundDiv (volume * 36000) ((max l i : Nat) : Int), .intervalBased)
    | none, _, _ => (0, .zero)

/-- The load of a district (R108). -/
def loadOf (s : State) (d : DistrictId) : Int := (rateOf s.tables s (districtPulse d)).1

/-! ### The check measurement -/

/-- Whether the check is ARMED or RUNNING (R109). -/
def Check.active (c : Check) : Bool := c.state == .armed || c.state == .running

/-- Every end of a check raises CHECK-DONE (R111). -/
def checkEnds (c : Check) (s : State) : State := momentAlarm .checkDone 0 (s.setCheck c)

/-- A check ended short of its result, its counts kept (R110, R112, R113). -/
def Check.cutShort (c : Check) (st : CheckState) (cause : Option CheckCause) : Check :=
  { c with state := st, timer := none, gateTimer := none, gateTime := none, ratio := none, cause := cause }

/-- The ratio at the closing of the gate, `n` target pulses after its opening (R111). -/
def checkRatio (t : Tables) (c : Check) (target : Fin 5) : Int :=
  roundDiv ((c.checkCount : Int) * t.meter[5].pulseVolume * 10000)
    ((c.pulses : Int) * t.meter[target.castSucc].pulseVolume)

/-- Whether a ratio lies in the band (R111). -/
def ratioPasses (c : Check) (ratio : Int) : Bool :=
  decide (10000 - 10 * (c.tolerance : Int) ≤ ratio ∧ ratio ≤ 10000 + 10 * (c.tolerance : Int))

/-- The gate closes on the N-th target pulse (R111), CHECK-OUT before CHECK-DONE (log entry 41). -/
def closeGate (target : Fin 5) (c : Check) (s : State) : State :=
  let ratio := checkRatio s.tables c target
  let done := { c with state := .finished, timer := none, gateTimer := none,
                       gateTime := c.gateTimer.map seconds, ratio := some ratio }
  if ratioPasses c ratio then checkEnds done s
  else checkEnds done (momentAlarm .checkOut target.val s)

/-- A target pulse at an active check (R110). The gate's time is no figure of the record until it closes (log entry 44).
-/
def targetPulse (target : Fin 5) (s : State) : State :=
  let c : Check := s.check
  match c.state with
  | .armed =>
    s.setCheck { c with state := .running, targetCount := 0, checkCount := 0, timer := some 0, gateTimer := some 0 }
  | .running =>
    let c := { c with targetCount := c.targetCount + 1, timer := some 0 }
    if c.pulses ≤ c.targetCount then closeGate target c s else s.setCheck c
  | _ => s

/-- A P5 pulse at an active check (R110). -/
def meterPulse (s : State) : State :=
  let c : Check := s.check
  match c.state with
  | .running =>
    if c.checkCount < Config.intervalLimit then s.setCheck { c with checkCount := c.checkCount + 1 }
    else checkEnds (c.cutShort .aborted (some .countLimit)) s
  | _ => s

/-- A pulse of a channel at the check (R101, R110). -/
def checkPulse (p : PulseId) (s : State) : State :=
  match s.check.target with
  | some target => if p = target.castSucc then targetPulse target s else if p.val = 5 then meterPulse s else s
  | none => s

/-- What a window's saturation delivers (R103). -/
def saturation (p : PulseId) (before after : Bool) (s : State) : State :=
  if !before && after then
    let s := momentAlarm .meterSaturated p.val s
    if p.val < 5 then markPeriods Flags.ofSaturated s else s
  else s

/-- A pulse on an enabled channel (R101): its window and interval, METER-SATURATED, and then the check with its alarms
(log entry 53). -/
def takePulse (p : PulseId) (s : State) : State :=
  if s.tables.meterOn p then
    let m : Meter := s.meters[p]
    let m' := m.countPulse.timePulse
    checkPulse p (saturation p m.saturated m'.saturated (s.setMeter p m'))
  else s

/-- The timeout of an active check (R112). -/
def checkExpired (s : State) : State :=
  if s.check.active then checkEnds (s.check.cutShort .timedOut none) s else s

/-- The operator's stop of a check (R113). -/
def stopCheck (s : State) : State :=
  if s.check.active then checkEnds (s.check.cutShort .aborted (some .requested)) s else s

/-- A new check (R110). -/
def armCheck (target : Fin 5) (pulses tolerance : Nat) (s : State) : State :=
  s.setCheck { state := .armed, target := some target, pulses := pulses, tolerance := tolerance, targetCount := 0,
               checkCount := 0, timer := some 0, gateTimer := none, gateTime := none, ratio := none, cause := none }

/-! ### Commit (R115) -/

/-- A record brought from its old entry to its new one, the windows being already closed. -/
def Meter.recommitted (was now : MeterEntry) (m : Meter) : Meter :=
  match isYes was.enabled, isYes now.enabled with
  | true, true =>
    if was.pulseVolume ≠ now.pulseVolume then { m with interval := none, lastInterval := none, lastFull := none }
    else m
  | false, false => m
  | _, _ => Meter.startUp

/-- Every meter brought to the new METER table. -/
def commitMeters (was : Tables) (s : State) : State :=
  { s with meters := Vector.ofFn fun p => Meter.recommitted was.meter[p] s.tables.meter[p] s.meters[p] }

end Sys2Proof.Machine
end

