-- ==== Sys2Proof/Machine/Accounts.lean ====
section
/-! DEFINITION. Machine/Accounts.lean: the Account Unit (09_send_out_accounts.md). A close leaves the period absent; the
opening that follows in the same event fills it again. -/

namespace Sys2Proof.Machine

/-! ### Clock hours and gas days (R157) -/

/-- The clock time one second later (R182). -/
def Time.next (t : Time) : Time :=
  if t.second < 86399 then { t with second := t.second + 1 }
  else if t.day < 65535 then ⟨t.day + 1, 0⟩ else ⟨0, 0⟩

/-- The nominal start of the clock hour a time lies in. -/
def hourOf (t : Time) : Time := ⟨t.day, 3600 * (t.second / 3600)⟩

/-- The nominal start of the gas day a time lies in, for gas days that begin at second `g`. -/
def gasDayOf (g : Nat) (t : Time) : Time :=
  if g ≤ t.second then ⟨t.day, g⟩ else if t.day = 0 then ⟨65535, g⟩ else ⟨t.day - 1, g⟩

/-! ### Stock at the bounds (R160) -/

/-- The yard's stock as the unit took it. -/
structure YardStock where
  figure : Int
  estimated : Bool
deriving DecidableEq, Repr

/-- A configured holder's bound stock after a taking. -/
def boundOf (s : State) (h : HolderId) : Int :=
  if s.tables.holderOn h && s.holders[h].worked then s.holders[h].stock else s.account.bound[h]

/-- Whether a holder's figure is estimated at a taking. -/
def boundEstimated (s : State) (h : HolderId) : Bool := !s.holders[h].worked || s.holders[h].estimated

/-- The yard's stock: the sum over the configured holders. -/
def yardStock (s : State) : YardStock :=
  { figure := ((allHolders.filter s.tables.holderOn).map (boundOf s)).sum
    estimated := (allHolders.filter s.tables.holderOn).any (boundEstimated s) }

/-- The bound stocks kept from a taking. -/
def takeStock (s : State) : State := s.setAccount { s.account with bound := Vector.ofFn (boundOf s) }

/-! ### Opening a period -/

/-- The flags a period opens with (R158). -/
def openingFlags (s : State) : Flags :=
  { Flags.none with estimated := (yardStock s).estimated, makeHold := s.plan.makeHold, sendShort := s.plan.sendShort }

/-- An hour opened at the present clock time. -/
def openHour (stockStart : Int) (s : State) : State :=
  let s := takeStock s
  s.setAccount { s.account with
    hour := some { nominal := hourOf s.clock, start := s.clock, elapsed := 0, flags := openingFlags s,
                   stockStart := stockStart } }

/-- A day opened at the present clock time. -/
def openDay (stockStart : Int) (s : State) : State :=
  let s := takeStock s
  s.setAccount { s.account with
    day := some { nominal := gasDayOf s.tables.gasDaySecond s.clock, start := s.clock, elapsed := 0,
                  flags := openingFlags s, stockStart := stockStart, make := 0, sendOut := Vector.replicate 4 0,
                  listed := Vector.replicate 4 false, minPoint := Vector.replicate 4 none,
                  maxPoint := Vector.replicate 4 none, hourFlags := Flags.none } }

/-- An hour opened, with a day where none is open. -/
def openPeriods (stockStart : Int) (s : State) : State :=
  let s := openHour stockStart s
  if s.account.day.isSome then s else openDay stockStart s

/-! ### Records (R164, R195) -/

/-- The flags byte of a record. -/
def Flags.byte (f : Flags) : Byte :=
  BitVec.ofNat 8 (f.clockSet.toNat + 2 * f.configChanged.toNat + 4 * f.powerGap.toNat + 8 * f.estimated.toNat +
    16 * f.saturated.toNat + 32 * f.makeHold.toNat + 64 * f.sendShort.toNat)

/-- A class's number on the link. -/
def UagClass.byte : UagClass → Byte
  | .normal => 0
  | .advisory => 1
  | .alarm => 2

/-- A district entry of a record. -/
def DistrictLine.bytes (dayRecord : Bool) (l : DistrictLine) : List Byte :=
  unsignedBytes 1 (number l.district) ++ signedBytes 4 l.sendOut ++
    if dayRecord then
      [BitVec.ofNat 8 (l.minPoint.isSome.toNat + 2 * l.maxPoint.isSome.toNat)] ++
        signedBytes 2 (l.minPoint.getD 0) ++ signedBytes 2 (l.maxPoint.getD 0)
    else []

/-- A record's bytes without its signature. -/
def Record.body (r : Record) : List Byte :=
  unsignedBytes 2 r.sequence ++ [flagByte r.dayRecord] ++ unsignedBytes 2 r.start.day ++
    unsignedBytes 4 r.start.second ++ unsignedBytes 4 r.duration ++ [r.flags.byte] ++ signedBytes 4 r.make ++
    unsignedBytes 1 r.districts.length ++ r.districts.flatMap (DistrictLine.bytes r.dayRecord) ++
    signedBytes 4 r.stockStart ++ signedBytes 4 r.stockEnd ++ signedBytes 4 r.uag ++ [r.uagClass.byte] ++
    wordBytes r.prevSignature

/-- The whole record as ACCOUNT-READ sends it. -/
def Record.bytes (r : Record) : List Byte := r.body ++ wordBytes r.signature

/-- The signature of a record (R164). -/
def Record.sign (r : Record) : Record := { r with signature := crc16 (wordBytes r.prevSignature ++ r.body) }

/-- Unaccounted-for gas (R161). -/
def balance (make : Int) (ds : List DistrictLine) (stockStart stockEnd : Int) : Int :=
  make - (ds.map DistrictLine.sendOut).sum - (stockEnd - stockStart)

/-- One limit of R163. -/
def uagLimit (perMille floor make : Int) : Int := max (roundDiv (perMille * make) 1000) floor

/-- The class of a period (R163). -/
def classify (e : AccountEntry) (make uag : Int) : UagClass :=
  if uagLimit e.alarm e.floor make < |uag| then .alarm
  else if uagLimit e.advisory e.floor make < |uag| then .advisory
  else .normal

/-- The oldest HOUR record dropped, or the oldest record where none is an HOUR record (R165). -/
def dropOne (q : List Record) : List Record :=
  if q.any (fun r => !r.dayRecord) then q.eraseP (fun r => !r.dayRecord) else q.tail

/-- A record joined to the queue (R165). -/
def enqueue (r : Record) (s : State) : State :=
  if s.account.queue.length < Config.accountCapacity then
    s.setAccount { s.account with queue := s.account.queue ++ [r] }
  else momentAlarm .accountDrop 0 (s.setAccount { s.account with queue := dropOne s.account.queue ++ [r] })

/-- A record numbered, chained to the record before it and signed (R164). -/
def Record.chained (r : Record) (a : Account) : Record :=
  { r with sequence := a.nextSequence, prevSignature := a.lastSignature }.sign

/-- UAG-HIGH told for the class ALARM (R163). -/
def tellClass (c : UagClass) (s : State) : State := if c = .alarm then momentAlarm .uagHigh 0 s else s

/-- A record classed, which tells UAG-HIGH for the class ALARM, then numbered, chained, signed and queued: the steps 5
and 6 of R161 in their order (R163 to R165). -/
def fileRecord (r : Record) (s : State) : State :=
  let a : Account := s.account
  let r := r.chained a
  enqueue r ((tellClass r.uagClass s).setAccount
    { a with nextSequence := (a.nextSequence + 1) % 65536, lastSignature := r.signature })

/-! ### Closing an hour (R161) -/

/-- The litres a close takes from an accumulator. -/
def litres (accumulator : Int) : Int := roundDiv accumulator 1000

/-- The litres of a district's channel at a close. -/
def districtLitres (a : Account) (d : DistrictId) : Int := litres a.accumulators[d.succ]

/-- Whether a district is listed before the fallback on D1. -/
def listedBy (s : State) (d : DistrictId) : Bool :=
  s.tables.districtOn d || s.tables.meterOn (districtPulse d) || decide (districtLitres s.account d ≠ 0)

/-- The districts an HOUR record lists. -/
def listedDistricts (s : State) : List DistrictId :=
  match allDistricts.filter (listedBy s) with
  | [] => [0]
  | l => l

/-- The accumulators after a close: the make and the listed districts leave their remainders. -/
def remainders (s : State) : Vector Int 5 :=
  Vector.ofFn fun i =>
    let x := s.account.accumulators[i]
    if i = 0 || (listedDistricts s).any (fun d => d.succ == i) then x - 1000 * litres x else x

/-- The HOUR record of an open hour, before it is numbered. -/
def hourRecord (e : AccountEntry) (cause : Flags) (h : Hour) (s : State) : Record :=
  let make := litres s.account.accumulators[0]
  let lines := (listedDistricts s).map fun d => DistrictLine.mk d (districtLitres s.account d) none none
  let stock := yardStock s
  let uag := balance make lines h.stockStart stock.figure
  { sequence := 0, dayRecord := false, start := h.start, duration := h.elapsed,
    flags := (h.flags.union cause).union { Flags.none with estimated := stock.estimated }
    make := make, districts := lines, stockStart := h.stockStart, stockEnd := stock.figure, uag := uag,
    uagClass := classify e make uag, prevSignature := 0, signature := 0 }

/-- The send-out an HOUR record gives a district. -/
def sendOutIn (r : Record) (d : DistrictId) : Int :=
  ((r.districts.find? fun l => l.district == d).map DistrictLine.sendOut).getD 0

/-- An HOUR record added to the open day's sums. -/
def Day.add (d : Day) (r : Record) : Day :=
  { d with
    make := d.make + r.make
    sendOut := Vector.ofFn fun i => d.sendOut[i] + sendOutIn r i
    listed := Vector.ofFn fun i => d.listed[i] || r.districts.any (fun l => l.district == i)
    hourFlags := d.hourFlags.union r.flags }

/-- The open hour closed, with the flag of an early close's cause and the entry that classes it. -/
def closeHour (e : AccountEntry) (cause : Flags) (s : State) : State :=
  match s.account.hour with
  | none => s
  | some h =>
    let r := hourRecord e cause h s
    let s := takeStock (s.setAccount { s.account with accumulators := remainders s, hour := none })
    let s := fileRecord r s
    s.setAccount { s.account with day := s.account.day.map fun d => d.add r }

/-! ### Closing a day (R162) -/

/-- The district lines of a DAY record. -/
def dayLines (d : Day) : List DistrictLine :=
  (allDistricts.filter fun i => d.listed[i] || d.minPoint[i].isSome).map fun i =>
    DistrictLine.mk i d.sendOut[i] d.minPoint[i] d.maxPoint[i]

/-- The DAY record of an open day, before it is numbered. -/
def dayRecord (e : AccountEntry) (cause : Flags) (stockEnd : Int) (d : Day) : Record :=
  let uag := balance d.make (dayLines d) d.stockStart stockEnd
  { sequence := 0, dayRecord := true, start := d.start, duration := d.elapsed,
    flags := (d.flags.union d.hourFlags).union cause
    make := d.make, districts := dayLines d, stockStart := d.stockStart, stockEnd := stockEnd, uag := uag,
    uagClass := classify e d.make uag, prevSignature := 0, signature := 0 }

/-- The open day closed, directly after its last hour. -/
def closeDay (e : AccountEntry) (cause : Flags) (stockEnd : Int) (s : State) : State :=
  match s.account.day with
  | none => s
  | some d => fileRecord (dayRecord e cause stockEnd d) (s.setAccount { s.account with day := none })

/-! ### The events of the unit -/

/-- The hour closed, the day too where the test says so, and new periods opened on the closed hour's stock. -/
def closeAndOpen (cause : Flags) (dayToo : Day → Bool) (retime : State → State) (s : State) : State :=
  let stockEnd := (yardStock s).figure
  let s := closeHour s.tables.account cause s
  let s := if (s.account.day.map dayToo).getD false then closeDay s.tables.account cause stockEnd s else s
  openPeriods stockEnd (retime s)

/-- One second counted in both open periods (R157). -/
def countSecond (s : State) : State :=
  s.setAccount { s.account with
    hour := s.account.hour.map fun h => { h with elapsed := h.elapsed + 1 }
    day := s.account.day.map fun d => { d with elapsed := d.elapsed + 1 } }

/-- An advance of the clock at the unit, the minute windows being already closed (R157). -/
def accountSecond (s : State) : State :=
  if s.account.running && !s.account.hold then
    let s := countSecond s
    if s.clock.second % 3600 = 0 then
      closeAndOpen Flags.none (fun _ => s.clock.second == s.tables.gasDaySecond) id s
    else s
  else s

/-- The unit started with its first periods (R156). -/
def startAccount (s : State) : State :=
  let s := s.setAccount { s.account with running := true }
  openPeriods (yardStock s).figure s

/-- The clock put to a new time, the mark set and CLOCK-UNSET ended (R192). -/
def writeClock (t : Time) (s : State) : State :=
  let wasSet := s.retained.clockSet
  let s := s.setRetained { s.retained with clock := t, clockSet := true }
  if wasSet then s else endAlarm .clockUnset 0 s

/-- CLOCK-SET at the meters and the accounts (R167, R192). -/
def setClock (t : Time) (s : State) : State :=
  let s := closeWindows s.tables false s
  if s.account.running then
    closeAndOpen Flags.ofClockSet (fun d => gasDayOf s.tables.gasDaySecond t != d.nominal) (writeClock t) s
  else
    let s := writeClock t s
    if s.retained.configured then startAccount s else s

/-- The power-gap close (R169). -/
def powerGapClose (s : State) : State :=
  if s.account.hold then
    let s := closeAndOpen Flags.ofPowerGap (fun d => gasDayOf s.tables.gasDaySecond s.clock != d.nominal) id s
    s.setAccount { s.account with hold := false }
  else s

/-- The closes of a commit, under the tables that stood before it and the new ACCOUNT entry's limits (R168, R170). -/
def commitClose (new : AccountEntry) (s : State) : State :=
  if s.account.running then
    let stockEnd := (yardStock s).figure
    let changed := s.tables.account.gasDayStart ≠ new.gasDayStart
    let s := closeHour new Flags.ofConfigChanged s
    if changed then closeDay new Flags.ofConfigChanged stockEnd s else s
  else s

/-- The openings of a commit, or the start of the unit (R156, R168). -/
def commitOpen (s : State) : State :=
  if s.account.running then openPeriods (yardStock s).figure s
  else if s.retained.clockSet then startAccount s else s

/-- An accepted reading at the open day (R159). -/
def accountAcceptance (d : DistrictId) (reading : Int) (s : State) : State :=
  if s.account.running && !s.account.hold then
    s.setAccount { s.account with day := s.account.day.map fun day =>
      { day with
        minPoint := upd day.minPoint d fun m => some ((m.map (min reading)).getD reading)
        maxPoint := upd day.maxPoint d fun m => some ((m.map (max reading)).getD reading) } }
  else s

/-- The records up to and including a sequence number freed (R166). -/
def freeRecords (sequence : Nat) (s : State) : State :=
  s.setAccount { s.account with queue := (s.account.queue.dropWhile fun r => r.sequence != sequence).tail }

end Sys2Proof.Machine
end

