-- ==== Sys2Proof/Machine/Pressure.lean ====
section
/-! DEFINITION. Machine/Pressure.lean: the Pressure Unit (07_street_pressure.md): the setpoint chain, the trims and the
booster. -/

namespace Sys2Proof.Machine

/-! ### The setpoint chain (R120 to R124) -/

/-- The half-hour slot of the clock, `none` for CLOCK-UNSET (R120). -/
def slotOf (s : State) : Option Nat := if s.retained.clockSet then some (s.clock.second / 1800) else none

/-- The figures of a district's 48 slots. -/
def slotFigures (t : Tables) (d : DistrictId) : List Int := allSlots.map fun i => t.profile[profileIndex d i]

/-- The profile term of a slot, the smallest figure while the clock is unset (R120). -/
def profileTerm (t : Tables) (d : DistrictId) (slot : Option Nat) : Int :=
  match slot with
  | some i => (slotFigures t d).getD i 0
  | none => (slotFigures t d).foldl min t.profile[profileIndex d 0]

/-- The static cap (R120). -/
def staticCapOf (e : DistrictEntry) : Int := e.maxPoint - roundDiv (e.elevation * e.gain) 100

/-- The cap (R120). -/
def capOf (e : DistrictEntry) : Int := min e.maxOut (staticCapOf e)

/-- The load term (R120). -/
def loadTermOf (e : DistrictEntry) (load : Int) : Int := roundDiv (load * e.loadGain) 1000000

/-- A district record with its profile term, load term, caps and wanted worked afresh (R120). -/
def workWanted (s : State) (d : DistrictId) : District :=
  let e : DistrictEntry := s.tables.district[d]
  let r : District := s.districts[d]
  let slot := slotOf s
  let load := loadOf s d
  { r with
    slot := slot
    profileTerm := profileTerm s.tables d slot
    load := load
    loadTerm := loadTermOf e load
    staticCap := staticCapOf e
    cap := capOf e
    wanted := clamp e.minOut (capOf e)
      (profileTerm s.tables d slot + loadTermOf e load + s.retained.trims[d]) }

/-- Each configured district's record replaced by a function of it. -/
def mapDistricts (f : DistrictId → District) (s : State) : State :=
  { s with districts := Vector.ofFn fun d => if s.tables.districtOn d then f d else s.districts[d] }

/-- The feed without booster (R121). -/
def feedOf (s : State) : Int :=
  match s.press.send with
  | some h => max 0 (s.holders[h].pressure - s.tables.yard.margin)
  | none => 0

/-- The available feed with the booster in its present state (R121). -/
def availableOf (s : State) : Int :=
  match s.press.send with
  | some h =>
    if s.booster.state = .running ∨ s.booster.state = .runOn then
      max 0 (s.holders[h].pressure - s.tables.yard.margin + s.tables.yard.boosterRise)
    else feedOf s
  | none => 0

/-! ### The booster (R129 to R135) -/

/-- The configured districts. -/
def configuredDistricts (s : State) : List DistrictId := allDistricts.filter s.tables.districtOn

/-- The booster demand (R130). -/
def demandOf (s : State) : Bool :=
  let feed := s.press.feed
  if s.booster.demand then
    !(configuredDistricts s).all fun d => decide (s.districts[d].wanted ≤ feed - s.tables.yard.demandHysteresis)
  else (configuredDistricts s).any fun d => decide (feed < s.districts[d].wanted)

/-- The booster released and at rest. -/
def Booster.stopped (b : Booster) : Booster :=
  { b with state := .idle, runLine := false, startTimer := none, runOnTimer := none }

/-- The booster failed for a cause. -/
def Booster.fails (b : Booster) (c : BoosterCause) : Booster :=
  { b with state := .failed, runLine := false, startTimer := none, runOnTimer := none, cause := some c }

/-- The booster proved. -/
def Booster.proves (b : Booster) : Booster := { b with state := .running, startTimer := none, runOnTimer := none }

/-- Whether the run contact proves the fan (R129). -/
def Booster.proved (b : Booster) : Bool := b.contact.active && b.contact.valid

/-- What an evaluation does to the booster (R131, R133, R134). -/
def boosterAct (fitted sendPresent : Bool) (b : Booster) : Booster :=
  match b.state with
  | .idle =>
    if b.demand && sendPresent && fitted then
      if b.proved then { b.proves with runLine := true }
      else { b with state := .starting, runLine := true, startTimer := some 0 }
    else b
  | .running => if b.demand then b else { b with state := .runOn, runOnTimer := some 0 }
  | .runOn => if b.demand then b.proves else b
  | .starting => b
  | .failed => b

/-- The run-on time of a code (R134). -/
def runOnSeconds (code : Int) : Int := if code = 0 then 600 else code * 5

/-- A booster record put in place, with BOOSTER-FAILED (R135). -/
def putBooster (b : Booster) (s : State) : State :=
  alarmChange .boosterFailed 0 (s.booster.state == .failed) (b.state == .failed) (s.setBooster b)

/-! ### Evaluation (R119) -/

/-- The slew of one tick (R123). -/
def slewed (slew target setpoint : Int) : Int :=
  if setpoint < target then min target (setpoint + slew)
  else if target < setpoint then max target (setpoint - slew) else setpoint

/-- A district's target, FEED-SHORT and setpoint from the available feed (R122 to R125). -/
def workTarget (full : Bool) (available : Int) (e : DistrictEntry) (r : District) : District :=
  let target := min r.wanted available
  if r.frozen then { r with target := target }
  else
    { r with
      target := target
      feedShort := decide (target < e.minOut)
      setpoint := min (if full then slewed e.slew target r.setpoint else r.setpoint) available }

/-- The FEED-SHORT rises and ends between two records of every district, D1 to D4 (log entry 54). -/
def feedShortAlarms (before after : Vector District 4) (s : State) : State :=
  inOrder allDistricts (fun d s => alarmChange .feedShort (number d) before[d].feedShort after[d].feedShort s) s

/-- The demand judged and the booster acted on; at a start-up the booster is first judged at the first tick (R138). -/
def judgeBooster (s : State) : State :=
  if s.press.boosterWaits then s
  else
    putBooster (boosterAct s.tables.boosterFitted s.press.send.isSome { s.booster with demand := demandOf s }) s

/-- One evaluation: the tick's full one or a prompt one. -/
def evaluate (full : Bool) (s : State) : State :=
  let s := mapDistricts (workWanted s) s
  let s := judgeBooster (s.setPress { s.press with feed := feedOf s })
  let available := availableOf s
  let s := s.setPress { s.press with available := available }
  let before := s.districts
  let s := mapDistricts (fun d => workTarget full available s.tables.district[d] s.districts[d]) s
  feedShortAlarms before s.districts s

/-- A prompt evaluation, made once the setpoints have begun (R138). -/
def promptEvaluation (s : State) : State := if s.press.begun then evaluate false s else s

/-! ### What the plan delivers -/

/-- The booster at a change of send holder to none (R132 to R134). -/
def boosterFeedLost (b : Booster) : Booster :=
  if b.state = .starting ∨ b.state = .running ∨ b.state = .runOn then b.stopped else b

/-- The plan's send holder and freeze taken, without the evaluation (R125). -/
def takePlan (s : State) : State :=
  let lost := s.press.send.isSome && s.plan.send.isNone
  let s := if lost then putBooster (boosterFeedLost s.booster) s else s
  let s := mapDistricts (fun d => { s.districts[d] with frozen := s.plan.freeze }) s
  s.setPress { s.press with send := s.plan.send, freeze := s.plan.freeze }

/-- Whether the plan's send holder or freeze has changed since it was last delivered. -/
def planMoved (s : State) : Bool := s.press.send != s.plan.send || s.press.freeze != s.plan.freeze

/-- A plan event at the Pressure Unit; `judge` says whether it makes its prompt evaluation now or leaves that to the
commit that carries it (R137). -/
def deliverPlan (judge : Bool) (s : State) : State :=
  if planMoved s then (if judge then promptEvaluation (takePlan s) else takePlan s) else s

/-! ### Trim (R127) -/

/-- The decision an accepted reading makes. -/
def trimDecision (e : DistrictEntry) (trim point : Int) : TrimDecision :=
  if point < e.minPoint then .raised
  else if e.maxPoint < point then .lowered
  else if 0 < trim ∧ e.minPoint + e.trimBand < point then .lowered
  else if trim < 0 ∧ point < e.maxPoint - e.trimBand then .raised
  else .kept

/-- The trim after a decision, clamped to the limit. -/
def trimAfter (e : DistrictEntry) (trim : Int) (d : TrimDecision) : Int :=
  clamp (-e.trimLimit) e.trimLimit
    (match d with
      | .raised => trim + e.trimStep
      | .lowered => trim - e.trimStep
      | .kept => trim)

/-- The configured district a station serves (R127). -/
def districtServedBy (t : Tables) (n : StationId) : Option DistrictId :=
  allDistricts.find? fun d => t.districtOn d && t.stationOf d == some n

/-- An acceptance at the Pressure Unit (R127). -/
def trimAcceptance (n : StationId) (point : Int) (s : State) : State :=
  match districtServedBy s.tables n with
  | none => s
  | some d =>
    let e : DistrictEntry := s.tables.district[d]
    let decision := trimDecision e s.retained.trims[d] point
    let trim := trimAfter e s.retained.trims[d] decision
    (s.setDistrict d { s.districts[d] with lastDecision := some (point, decision) }).setTrim d trim

/-! ### Events of the unit's own -/

/-- The one-second tick (R119). -/
def pressureTick (s : State) : State :=
  if s.press.tickTimer.isSome then
    evaluate true (s.setPress { s.press with tickTimer := some 0, boosterWaits := false })
  else s

/-- The booster's contact pair taken in and judged, without the evaluation (R132 to R134). -/
def boosterContact (p : Pair) (b : Booster) : Booster :=
  let b := { b with contact := p }
  match b.state with
  | .starting => if b.proved then b.proves else b
  | .running => if p.valid && !p.active then b.fails .quitRunning else b
  | .runOn => if p.valid && !p.active then b.fails .quitRunning else b
  | _ => b

/-- A contact event that carries the booster's use. -/
def takeBoosterContact (p : Pair) (s : State) : State :=
  let b := boosterContact p s.booster
  let changed := b.state != s.booster.state
  let s := putBooster b s
  if changed then promptEvaluation s else s

/-- The expiry of a running start timer (R132). -/
def startExpired (s : State) : State :=
  if s.booster.startTimer.isSome then promptEvaluation (putBooster (s.booster.fails .noStart) s) else s

/-- The expiry of a running run-on timer (R134). -/
def runOnExpired (s : State) : State :=
  if s.booster.runOnTimer.isSome then promptEvaluation (putBooster s.booster.stopped s) else s

/-- The operator's reset of a FAILED booster (R135). -/
def resetBooster (s : State) : State :=
  if s.booster.state = .failed then promptEvaluation (putBooster s.booster.stopped s) else s

/-! ### Start-up and commit (R137, R138) -/

/-- A district's record when it begins at the start-up or at the commit that configures it. The available feed is worked
afresh under the tables now in use (log entry 55). -/
def districtBegun (s : State) (d : DistrictId) (before : Option Int) (frozen : Bool) : District :=
  let e : DistrictEntry := s.tables.district[d]
  let p := profileTerm s.tables d (slotOf s)
  { District.startUp (staticCapOf e) (capOf e) with
    slot := slotOf s, profileTerm := p, trimBefore := before, frozen := frozen
    setpoint := min (min p (capOf e)) (availableOf s), driven := true }

/-- The start-up's setpoint step (R138, R185). -/
def beginSetpoints (s : State) : State :=
  let s := s.setPress { s.press with send := s.plan.send, begun := true, boosterWaits := s.retained.configured }
  let s := s.setPress { s.press with feed := feedOf s, available := availableOf s }
  let s := mapDistricts (fun d => districtBegun s d (some s.retained.trims[d]) false) s
  inOrder (configuredDistricts s) (fun d s => s.setTrim d 0) s

/-- A district record at start-up, with its caps from the active table (R138). -/
def districtStartUp (t : Tables) (d : DistrictId) : District :=
  District.startUp (staticCapOf t.district[d]) (capOf t.district[d])

/-- A district brought to the new tables (R137). One no longer configured takes its start-up values in the fields that
R118 does not name too (log entry 56). -/
def commitDistrict (was : Tables) (d : DistrictId) (s : State) : State :=
  let e : DistrictEntry := s.tables.district[d]
  let r : District := s.districts[d]
  match was.districtOn d, s.tables.districtOn d with
  | true, false =>
    alarmChange .feedShort (number d) r.feedShort false
      ((s.setDistrict d (districtStartUp s.tables d)).setTrim d 0)
  | false, true => (s.setDistrict d (districtBegun s d none s.plan.freeze)).setTrim d 0
  | true, true =>
    let r := { r with staticCap := staticCapOf e, cap := capOf e, setpoint := clamp 0 (capOf e) r.setpoint }
    if was.district[d].station ≠ e.station then (s.setDistrict d { r with lastDecision := none }).setTrim d 0
    else (s.setDistrict d r).setTrim d (clamp (-e.trimLimit) e.trimLimit s.retained.trims[d])
  | false, false => s.setDistrict d (districtStartUp s.tables d)

/-- The booster at a commit (R137): gone with its use, the run contact's pair then inactive and not valid (log entry
62), or judged by the commit's contact event. -/
def commitBooster (pair : Option Pair) (s : State) : State :=
  if s.tables.boosterFitted then
    match pair with
    | some p => putBooster (boosterContact p s.booster) s
    | none => s
  else putBooster { s.booster.stopped with contact := Pair.startUp } s

/-- The Pressure Unit's part of a commit, with its prompt evaluation, the districts in the order D1 to D4 (log entry
57). -/
def commitPressure (was : Tables) (pair : Option Pair) (s : State) : State :=
  promptEvaluation (commitBooster pair (inOrder allDistricts (commitDistrict was) s))

end Sys2Proof.Machine
end

