-- ==== Sys2Proof/Machine/Outstation.lean ====
section
/-! DEFINITION. Machine/Outstation.lean: the Outstation Line Controller (08_outstation_line.md). -/

namespace Sys2Proof.Machine

/-! ### Frames (R194) -/

/-- A six-byte answer frame. -/
structure StationFrame where
  address : Byte
  code : Byte
  value : Int
  age : Nat
deriving DecidableEq, Repr

/-- Six bytes as an answer frame, where their check holds. -/
def frameOf (l : List Byte) : Option StationFrame :=
  match l with
  | [a, c, v1, v0, g, k] =>
    if crc8 [a, c, v1, v0, g] = k then some ⟨a, c, ofSignedBytes [v1, v0], g.toNat⟩ else none
  | _ => none

/-- The frame that the latest six bytes make, if any. -/
def latestFrame (l : List Byte) : Option StationFrame := frameOf (l.drop (l.length - 6))

/-- Every frame of answer length with a good check among some bytes. -/
def framesIn : List Byte → List StationFrame
  | [] => []
  | b :: l => (frameOf ((b :: l).take 6)).toList ++ framesIn l

/-- A station's address. -/
def address (n : StationId) : Byte := BitVec.ofNat 8 (number n)

/-- The number of a function on the line (R194). -/
def AskFunction.code : AskFunction → Byte
  | .readPoint => 1
  | .readStatus => 2
  | .echo => 3

/-- Three bytes with their check behind them. -/
def askFrame (address function argument : Byte) : List Byte :=
  [address, function, argument, crc8 [address, function, argument]]

/-- The four bytes of an ask, as the driver sends them. -/
def Ask.bytes (a : Ask) : List Byte := askFrame (address a.station) a.function.code a.argument

/-- The CALL broadcast: address 0, function 4, argument 0 (R146, R194). -/
def callFrame : List Byte := askFrame 0 4 0

/-- READY, OLD and WAIT (R194). -/
def codeReady : Byte := 1
def codeOld : Byte := 2
def codeWait : Byte := 3

/-! ### Station records -/

/-- A station record put in place, with STATION-ABSENT and STATION-STALE (R143, R144). -/
def putStation (n : StationId) (r : Station) (s : State) : State :=
  let was : Station := s.stations[n]
  alarmChange .stationStale (number n) (was.freshness == .stale) (r.freshness == .stale) <|
  alarmChange .stationAbsent (number n) (was.presence == .absent) (r.presence == .absent) (s.setStation n r)

/-- Freshness judged against a stale limit (R144). -/
def Station.judged (limit : Int) (r : Station) : Station :=
  { r with freshness :=
      if r.reading.isNone then .noReading else if (r.age : Int) ≤ limit then .fresh else .stale }

/-- Presence and misses after a polled or manual ask (R143). -/
def Station.answered (manual : Bool) (result : AskResult) (r : Station) : Station :=
  match result with
  | .good _ => { r with presence := .present, misses := 0 }
  | .aborted => r
  | _ =>
    if manual then r
    else
      let misses := min 3 (r.misses + 1)
      { r with misses := misses, presence := if misses = 3 then .absent else r.presence }

/-- The gating of a GOOD READ-POINT answer (R142). A code that is none of the three has no case of its own: an age past
the limit holds it, and otherwise it moves nothing (log entry 6). -/
def gatingOf (e : StationEntry) (f : StationFrame) : Option Gating :=
  if f.code = codeWait then some .noUpdate
  else if f.code = codeOld ∧ e.acceptOld ≠ 1 then some .heldOld
  else if e.staleLimit < (f.age : Int) then some .heldAged
  else if f.code = codeReady ∨ f.code = codeOld then some .accepted
  else none

/-- A station's record after a gating. -/
def Station.gated (e : StationEntry) (f : StationFrame) (g : Option Gating) (r : Station) : Station :=
  match g with
  | some .accepted =>
    Station.judged e.staleLimit { r with reading := some f.value, age := f.age, lastGating := some .accepted }
  | some other => { r with lastGating := some other }
  | none => r

/-- An acceptance delivered to the Pressure Unit and the Account Unit (R142). -/
def deliverAcceptance (n : StationId) (value : Int) (s : State) : State :=
  accountAcceptance (s.tables.districtOfStation n) value (trimAcceptance n value s)

/-! ### The line -/

/-- The line record changed in place. -/
def onLine (f : Line → Line) (s : State) : State := s.setLine (f s.line)

/-- An ask put on the line driver (R141). -/
def sendAsk (n : StationId) (f : AskFunction) (argument : Byte) (manual : Bool) (s : State) : State :=
  onLine (fun l => { l with ask := some ⟨n, f, argument, manual⟩, driver := .ask, window := none, bytes := [] }) s

/-- The configured stations in address order that pass a test. -/
def stationsWhere (s : State) (f : Station → Bool) : List StationId :=
  allStations.filter fun n => s.tables.stationOn n && f s.stations[n]

/-- A fresh round list (R145). -/
def roundListFor (s : State) (round : Nat) : List StationId :=
  stationsWhere s fun r => round == 8 || r.presence != .absent

/-- A round number and the next (R145). -/
def nextRound (r : Nat) : Nat := if r < 8 then r + 1 else 1

/-- The round list with the stations at its front that are no longer configured removed, or the next round's. -/
def prepareRound (s : State) : State :=
  let l := s.line.roundList.dropWhile fun n => !s.tables.stationOn n
  if l.isEmpty then
    let round := nextRound s.line.round
    onLine (fun x => { x with round := round, firstRound := false, roundList := roundListFor s round }) s
  else onLine (fun x => { x with roundList := l }) s

/-- The first station of the round list asked (R145). -/
def askFirst (s : State) : State :=
  match s.line.roundList with
  | [] => s
  | n :: rest => sendAsk n .readPoint 0 false (onLine (fun l => { l with roundList := rest }) s)

/-- An expiry of the poll timer in POLLING with no quiet window (R145). -/
def takeStation (s : State) : State := askFirst (prepareRound s)

/-- Whether a poll is in flight. -/
def Line.polled (l : Line) : Bool := l.ask.any fun a => !a.manual

/-- An expiry of the running poll timer, which starts again from 0 in every line state but CALLING. One cannot fall
while a poll is in flight (log entry 1); a manual ask in flight holds nothing but the asking back (R145). -/
def pollExpired (s : State) : State :=
  if s.line.pollTimer.isSome ∧ s.line.polled = false then
    let s := onLine (fun l => { l with pollTimer := some 0 }) s
    if s.line.state = .polling then
      if s.line.quiet.isSome then onLine (fun l => { l with pollWaiting := true }) s else takeStation s
    else s
  else s

/-! ### Ends of an ask (R141 to R143, R148) -/

/-- The line state after an ask: a manual ask leaves HELD, or POLLING where a free is pending; a poll in HOLDING leaves
HELD (R147, R148). -/
def lineAfterAsk (manual : Bool) (l : Line) : Line :=
  if manual then { l with state := if l.freePending then .polling else .held, freePending := false }
  else { l with state := if l.state = .holding then .held else l.state }

/-- The manual result record once its ask has ended (R148). -/
def ManualResult.ended (m : ManualResult) (result : AskResult) (f : Option StationFrame) (g : Option Gating) :
    ManualResult :=
  { m with result := some result, value := f.map StationFrame.value, age := f.map StationFrame.age, gating := g }

/-- The gating of an ask's answer: a READ-POINT on a configured station alone has one (R142). -/
def askGating (s : State) (a : Ask) (f : Option StationFrame) : Option Gating :=
  match f with
  | some f =>
    if a.function = .readPoint ∧ s.tables.stationOn a.station then gatingOf s.tables.station[a.station] f else none
  | none => none

/-- The line with its ask ended (R141, R148). -/
def Line.askEnded (a : Ask) (result : AskResult) (f : Option StationFrame) (g : Option Gating) (l : Line) : Line :=
  lineAfterAsk a.manual
    { l with ask := none, driver := .idle, window := none, bytes := []
             manualResult := if a.manual then l.manualResult.map fun m => m.ended result f g else l.manualResult }

/-- A configured station's record after an ask of it (R142, R143). -/
def Station.afterAsk (e : StationEntry) (a : Ask) (result : AskResult) (f : Option StationFrame) (g : Option Gating)
    (r : Station) : Station :=
  let r := Station.answered a.manual result { r with lastResult := some result }
  match f with
  | some f => r.gated e f g
  | none => r

/-- An accepted value delivered (R142). -/
def deliverGood (n : StationId) (f : Option StationFrame) (g : Option Gating) (s : State) : State :=
  match f, g with
  | some f, some .accepted => deliverAcceptance n f.value s
  | _, _ => s

/-- An ask ended, its result acted on. -/
def endAsk (a : Ask) (result : AskResult) (f : Option StationFrame) (s : State) : State :=
  let g := askGating s a f
  let t := onLine (Line.askEnded a result f g) s
  if s.tables.stationOn a.station then
    deliverGood a.station f g
      (putStation a.station (s.stations[a.station].afterAsk s.tables.station[a.station] a result f g) t)
  else t

/-- A byte while an ask awaits its answer: a frame ends the ask (R141). -/
def askByte (a : Ask) (b : Byte) (s : State) : State :=
  let bytes := s.line.bytes ++ [b]
  match latestFrame bytes with
  | some f =>
    if f.address = address a.station then endAsk a (.good f.code) (some f) s
    else endAsk a .wrongStation none s
  | none => onLine (fun l => { l with bytes := bytes }) s

/-- A byte on the line. Before an ask's last byte has left the driver, between the slots of a roll call, and at every
other time with no ask in flight, it is discarded (R141, R146, R149). -/
def lineByte (b : Byte) (between : Bool) (s : State) : State :=
  match s.line.ask, s.line.window, s.line.slot with
  | some a, some _, _ => askByte a b s
  | none, _, some _ => if between then s else onLine (fun l => { l with bytes := l.bytes ++ [b] }) s
  | _, _, _ => s

/-- The answer window closes (R141). -/
def windowClosed (s : State) : State :=
  match s.line.ask, s.line.window with
  | some a, some _ => endAsk a (if s.line.bytes.isEmpty then .noAnswer else .badCheck) none s
  | _, _ => s

/-- The last byte of an ask leaves the driver: its window begins, or, where the ask was killed or aborted, the whole of
its quiet window (R141, R149). -/
def askSent (s : State) : State :=
  match s.line.driver with
  | .ask => onLine (fun l => { l with driver := .idle, window := some 0 }) s
  | .dropped => onLine (fun l => { l with driver := .idle, quiet := some Config.answerWindow }) s
  | .idle => s
  | .call => s

/-- An ask in flight aborted, with the quiet window its answer window leaves (R149, R151). -/
def abortAsk (a : Ask) (s : State) : State :=
  let began := s.line.window
  let s := endAsk a .aborted none s
  match began with
  | some e => onLine (fun l => { l with quiet := some (Config.answerWindow - e) }) s
  | none => onLine (fun l => { l with driver := .dropped, quiet := some Config.answerWindow }) s

/-! ### Roll call (R146) -/

/-- The CALL broadcast put on the driver. -/
def sendCall (s : State) : State :=
  onLine (fun l => { l with state := .calling, driver := .call, slot := none, callWaiting := false, bytes := [] }) s

/-- The broadcast's last byte has left: the slots follow. -/
def callSent (s : State) : State :=
  if s.line.driver = .call then onLine (fun l => { l with driver := .idle, slot := some 0, bytes := [] }) s else s

/-- What a slot received says of its station. -/
def slotPresence (n : StationId) (bytes : List Byte) : Presence × Nat :=
  if bytes.isEmpty then (.absent, 3)
  else
    match framesIn bytes with
    | [f] => if f.address = address n then (.present, 0) else (.unknown, 0)
    | _ => (.unknown, 0)

/-- A configured station judged at the close of its slot. -/
def judgeSlot (n : StationId) (s : State) : State :=
  if s.tables.stationOn n then
    let p := slotPresence n s.line.bytes
    putStation n { s.stations[n] with presence := p.1, misses := p.2 } s
  else s

/-- The round list a roll call leaves: the UNKNOWN stations, then the PRESENT. -/
def rollCallList (s : State) : List StationId :=
  stationsWhere s (fun r => r.presence == .unknown) ++ stationsWhere s (fun r => r.presence == .present)

/-- The roll call ends and the first station is asked at once. -/
def rollCallEnds (s : State) : State :=
  askFirst (onLine (fun l => { l with
    state := .polling, slot := none, bytes := [], round := 1, firstRound := true, roundList := rollCallList s
    pollTimer := some 0 }) s)

/-- A slot closes; the flag says whether it ended the roll call. -/
def slotClosed (s : State) : State × Bool :=
  match s.line.slot with
  | none => (s, false)
  | some i =>
    let s := judgeSlot i s
    match fromIndex 8 (i.val + 1) with
    | some j => (onLine (fun l => { l with slot := some j, bytes := [] }) s, false)
    | none => (rollCallEnds s, true)

/-- The quiet window ends, and what waited for it goes (R145, R149, R151). -/
def quietEnded (s : State) : State :=
  if s.line.quiet.isSome ∧ s.line.driver ≠ .dropped then
    let poll := s.line.pollWaiting && s.line.state == .polling
    let call := s.line.callWaiting && s.line.state == .calling
    let s := onLine (fun l => { l with quiet := none, pollWaiting := false }) s
    if call then sendCall s else if poll then takeStation s else s
  else s

/-! ### Reading ages (R144) -/

/-- One second of a station's reading. -/
def Station.second (limit : Int) (r : Station) : Station :=
  if r.reading.isSome then Station.judged limit { r with age := min 65535 (r.age + 1) } else r

/-- A second of the controller's own timer, the stations in the order S1 to S8 (log entry 57). -/
def readingSecond (s : State) : State :=
  inOrder allStations (fun n s =>
    if s.tables.stationOn n then putStation n (Station.second s.tables.station[n].staleLimit s.stations[n]) s else s)
    (onLine (fun l => { l with ageTimer := some 0 }) s)

/-! ### The requests of the line (R147 to R151) -/

/-- LINE-HOLD outside CALLING (R147). A poll that waited for the quiet window's end waits no longer: the next falls at
the first expiry after the state is POLLING again (R150). -/
def holdLine (s : State) : State :=
  match s.line.state with
  | .polling =>
    onLine (fun l => { l with state := if l.ask.isSome then .holding else .held, pollWaiting := false }) s
  | .manualBusy => onLine (fun l => { l with freePending := false }) s
  | _ => s

/-- LINE-FREE (R150). -/
def freeLine (s : State) : State :=
  match s.line.state with
  | .held => onLine (fun l => { l with state := .polling }) s
  | .holding => onLine (fun l => { l with state := .polling }) s
  | .manualBusy => onLine (fun l => { l with freePending := true }) s
  | _ => s

/-- A taken LINE-ASK (R148). -/
def manualAsk (n : StationId) (f : AskFunction) (argument : Byte) (s : State) : State :=
  sendAsk n f argument true (onLine (fun l => { l with
    state := .manualBusy
    manualResult := some { station := n, function := f, argument := argument, result := none, value := none,
                           age := none, gating := none } }) s)

/-- LINE-KILL (R149). -/
def killAsk (s : State) : State :=
  match s.line.ask with
  | some a => if a.manual && s.line.state == .manualBusy then abortAsk a s else s
  | none => s

/-- A taken LINE-RESTART (R151). -/
def restartLine (s : State) : State :=
  let s :=
    match s.line.ask with
    | some a => abortAsk a s
    | none => s
  let s := onLine (fun l => { l with
    freePending := false, roundList := [], state := .calling, pollTimer := none, pollWaiting := false }) s
  if s.line.quiet.isSome then onLine (fun l => { l with callWaiting := true }) s else sendCall s

/-! ### Commit (R154) -/

/-- A station record brought to its new entry. -/
def Station.recommitted (was now : StationEntry) (r : Station) : Station :=
  match isYes was.configured, isYes now.configured with
  | true, true =>
    let r := if was.district ≠ now.district then
        { r with reading := none, freshness := .noReading, lastGating := none } else r
    if was.staleLimit ≠ now.staleLimit then Station.judged now.staleLimit r else r
  | false, false => r
  | _, _ => Station.startUp

/-- Every station brought to the new STATION table. One that becomes configured is first asked in the next round, so it
leaves whatever is left of this one's list (log entry 42). The stations are taken in the order S1 to S8 (log entry
57). -/
def commitStations (was : Tables) (s : State) : State :=
  inOrder allStations (fun n s =>
    putStation n (Station.recommitted was.station[n] s.tables.station[n] s.stations[n]) s)
    (onLine (fun l => { l with
      roundList := l.roundList.filter fun n => was.stationOn n || !s.tables.stationOn n }) s)

end Sys2Proof.Machine
end

