-- ==== Sys2Proof/Machine/Valves.lean ====
section
/-! DEFINITION. Machine/Valves.lean: the Valve Unit (04_valves_and_holder_orders.md). Whatever it delivers to the Yard
Plan it leaves in the plan's inbox; the plan takes it as one event when the Valve Unit's event is over (R60). -/

namespace Sys2Proof.Machine

/-! ### Where a valve stands -/

/-- The position judged from both contacts (R51). -/
def Valve.position (x : Valve) : Position :=
  if !x.openContact.valid || !x.shutContact.valid then .unknown
  else
    match x.openContact.active, x.shutContact.active with
    | true, false => .atOpen
    | false, true => .atShut
    | false, false => .between
    | true, true => .contradictory

/-- A valve is travelling while it is OPENING or CLOSING (R50). -/
def ValveState.travelling (x : ValveState) : Bool := x == .opening || x == .closing

/-- The state of a travel in a direction. -/
def Direction.travel : Direction → ValveState
  | .toOpen => .opening
  | .toClose => .closing

/-- The drive line of a direction. -/
def Direction.drive : Direction → Drive
  | .toOpen => .openLine
  | .toClose => .closeLine

/-- The state at the end of a direction. -/
def Direction.rest : Direction → ValveState
  | .toOpen => .opened
  | .toClose => .closed

/-- The position at the end of a direction. -/
def Direction.limit : Direction → Position
  | .toOpen => .atOpen
  | .toClose => .atShut

/-- A valve that has no business with orders: not configured, it counts as CLOSED (R50). -/
def stateOf (s : State) (v : ValveId) : ValveState :=
  if s.tables.valveOn v then s.valves[v].state else .closed

/-! ### Deliveries -/

/-- A delivery left in the plan's inbox. -/
def tellPlan (n : PlanNote) (s : State) : State := s.setPlan { s.plan with inbox := s.plan.inbox ++ [n] }

/-- The end of whatever operation was in flight on a valve, or a plain change of its state where no PLAN order awaited
it (R56, R60). -/
def tellEnd (v : ValveId) (r : EndResult) (s : State) : State :=
  let x : Valve := s.valves[v]
  if x.planAwaits then tellPlan (.ended v r x.state) (s.setValve v { x with planAwaits := false })
  else tellPlan (.changed v x.state) s

/-! ### Changes of a valve -/

/-- A valve at rest at the end of a direction: drive and timer stopped, no fault cause. -/
def Valve.atRest (x : Valve) (d : Direction) : Valve :=
  { x with state := d.rest, drive := .undriven, timer := none, cause := .noCause }

/-- A valve driven in a direction from now (R52, R56, R57). -/
def Valve.driven (x : Valve) (d : Direction) (o : Originator) : Valve :=
  { x with state := d.travel, drive := d.drive, timer := some 0, originator := o, planAwaits := o == .plan }

/-- A valve in FAULT (R54, R55). -/
def Valve.faulted (x : Valve) (c : FaultCause) : Valve :=
  { x with state := .fault, drive := .undriven, timer := none, cause := c }

/-- A valve enters FAULT. Its condition rises, but for a fault that ends a retry travel, through which it stands: a
retry keeps the fault cause (R57, R58). -/
def enterFault (v : ValveId) (c : FaultCause) (s : State) : State :=
  let x : Valve := s.valves[v]
  let s := s.setValve v (x.faulted c)
  if x.cause = .noCause then raiseAlarm .valveFault (number v) s else s

/-- A valve comes to rest, which ends its condition (R58). -/
def comeToRest (v : ValveId) (d : Direction) (s : State) : State :=
  let x : Valve := s.valves[v]
  let s := s.setValve v (x.atRest d)
  if x.cause = .noCause then s else endAlarm .valveFault (number v) s

/-! ### Orders -/

/-- What came of an order. -/
inductive OrderOutcome where
  | started | joined | reversedTravel | endedAtOnce
deriving DecidableEq, Repr

/-- A completion at once, delivered to its orderer (R52, R57). -/
def completeAtOnce (v : ValveId) (o : Originator) (r : EndResult) (s : State) : State :=
  if o = .plan then tellPlan (.ended v r s.valves[v].state) s else s

/-- An order to a CLOSED or OPEN valve (R52). -/
def orderResting (v : ValveId) (d : Direction) (o : Originator) (s : State) : State × OrderOutcome :=
  let x : Valve := s.valves[v]
  if x.state = d.rest then
    (completeAtOnce v o .present (s.setValve v { x with originator := o }), .endedAtOnce)
  else
    (tellPlan (.changed v d.travel) (s.setValve v (x.driven d o)), .started)

/-- An order to a travelling valve (R56). A reversal ends the operation in flight: where a PLAN order awaited that one,
its REVERSED end is delivered (R60), whoever gave the order that reversed it. -/
def orderTravelling (v : ValveId) (d : Direction) (o : Originator) (s : State) : State × OrderOutcome :=
  let x : Valve := s.valves[v]
  if x.state = d.travel then
    (s.setValve v { x with originator := if o = .protection then .protection else x.originator,
                           planAwaits := x.planAwaits || o == .plan }, .joined)
  else if x.originator = .protection then (completeAtOnce v o .refused s, .endedAtOnce)
  else
    let s := s.setValve v (x.driven d o)
    (tellPlan (if x.planAwaits then .ended v .reversed d.travel else .changed v d.travel) s,
      .reversedTravel)

/-- An order to a FAULT valve (R57). One at the ordered stop takes the order's originator (log entry 10); a
CONTRADICTORY one, whose order ends at once with FAULT, keeps its former originator (log entry 60). -/
def orderFaulted (v : ValveId) (d : Direction) (o : Originator) (s : State) : State × OrderOutcome :=
  let x : Valve := s.valves[v]
  if x.position = d.limit then
    let s := s.setValve v { x with originator := o, confirmed := x.confirmed && decide (d ≠ .toClose) }
    let s := comeToRest v d s
    (tellPlan (if o = .plan then .ended v .present d.rest else .changed v d.rest) s, .endedAtOnce)
  else if x.position = .contradictory then
    (completeAtOnce v o .fault (s.setValve v { x with cause := .contradiction }), .endedAtOnce)
  else
    (tellPlan (.changed v d.travel) (s.setValve v (x.driven d o)), .started)

/-- An order carried out on a configured valve by R52, R56 or R57. -/
def carryOut (v : ValveId) (d : Direction) (o : Originator) (s : State) : State × OrderOutcome :=
  match s.valves[v].state with
  | .closed => orderResting v d o s
  | .opened => orderResting v d o s
  | .opening => orderTravelling v d o s
  | .closing => orderTravelling v d o s
  | .fault => orderFaulted v d o s

/-! ### The holder order queue -/

/-- The valve a hand order names. -/
def HandOrder.valve (o : HandOrder) (h : HolderId) : ValveId :=
  match o with
  | .openInlet => inletOf h
  | .closeInlet => inletOf h
  | .openOutlet => outletOf h
  | .closeOutlet => outletOf h

/-- The direction of a hand order. -/
def HandOrder.direction : HandOrder → Direction
  | .openInlet => .toOpen
  | .closeInlet => .toClose
  | .openOutlet => .toOpen
  | .closeOutlet => .toClose

/-- Whether some other configured holder's outlet is not CLOSED (R64). -/
def outletInUse (s : State) (h : HolderId) : Bool :=
  allHolders.any fun g => decide (g ≠ h) && s.tables.holderOn g && stateOf s (outletOf g) != .closed

/-- Whether some other configured store holder's inlet is not CLOSED (R64). -/
def inletInUse (s : State) (h : HolderId) : Bool :=
  allHolders.any fun g => decide (g ≠ h) && s.tables.isStore g && stateOf s (inletOf g) != .closed

/-- The first interlock that refuses a hand order, in the order of R64. -/
def interlockOf (s : State) (h : HolderId) : HandOrder → Option Interlock
  | .openInlet =>
    if s.tables.isStore h && inletInUse s h then some .inletInUse
    else if s.holders[h].top then some .atTop else none
  | .openOutlet =>
    if outletInUse s h then some .outletInUse else if s.holders[h].bottom then some .atBottom else none
  | .closeInlet => none
  | .closeOutlet => none

/-- The queue of a holder replaced. -/
def setQueue (h : HolderId) (q : List QueueEntry) (s : State) : State :=
  s.setControl h { s.controls[h] with queue := q }

/-- The head entry refused by an interlock (R64). -/
def refuseHead (h : HolderId) (o : HandOrder) (i : Interlock) (rest : List QueueEntry) (s : State) : State :=
  momentAlarm .interlock (number h)
    (s.setControl h { s.controls[h] with queue := rest, lastInterlock := some (o, i) })

/-- Whether the valve a hand order names is travelling under an originator other than MANUAL (R64). -/
def mustWait (s : State) (h : HolderId) (o : HandOrder) : Bool :=
  let x : Valve := s.valves[o.valve h]
  x.state.travelling && x.originator != .manual

/-- The head of a holder's queue comes to run, and those behind it in turn while each leaves at once (R64, R65). The
first argument bounds the entries that can leave. -/
def runQueue : Nat → HolderId → State → State
  | 0, _, s => s
  | n + 1, h, s =>
    match s.controls[h].queue with
    | [] => s
    | e :: rest =>
      if e.running || mustWait s h e.order then s
      else
        match interlockOf s h e.order with
        | some i => runQueue n h (refuseHead h e.order i rest s)
        | none =>
          match carryOut (e.order.valve h) e.order.direction .manual s with
          | (s, .endedAtOnce) => runQueue n h (setQueue h rest s)
          | (s, _) => setQueue h ({ e with running := true } :: rest) s

/-- The running head that named a valve leaves when the valve's operation ends (R65). -/
def dropHead (v : ValveId) (s : State) : State :=
  let h := ownerOf v
  match s.controls[h].queue with
  | e :: rest => if e.running && e.order.valve h == v then setQueue h rest s else s
  | [] => s

/-- After a valve's operation has ended and its end been delivered: the running entry leaves and the queue goes on. -/
def afterEnd (v : ValveId) (s : State) : State := runQueue (Config.orderCapacity + 1) (ownerOf v) (dropHead v s)

/-! ### Ends of a travel -/

/-- A travelling valve arrives (R53). -/
def arrive (v : ValveId) (d : Direction) (s : State) : State :=
  let x : Valve := s.valves[v]
  let t := seconds (x.timer.getD 0)
  let s := s.setValve v { x with lastTravel := some t, confirmed := x.confirmed && decide (d ≠ .toClose) }
  let s := comeToRest v d s
  let s := if s.tables.valve[v].slow < (t : Int) then momentAlarm .valveSlow (number v) s else s
  afterEnd v (tellEnd v .arrived s)

/-- A travelling valve faults (R54, R55). -/
def faultTravel (v : ValveId) (c : FaultCause) (s : State) : State :=
  afterEnd v (tellEnd v .fault (enterFault v c s))

/-- A resting valve faults (R55). -/
def faultAtRest (v : ValveId) (c : FaultCause) (s : State) : State :=
  tellPlan (.changed v .fault) (enterFault v c s)

/-- The UNSETTLED recovery (R72). -/
def recover (v : ValveId) (p : Position) (s : State) : State :=
  match p with
  | .atOpen => tellPlan (.changed v .opened) (comeToRest v .toOpen s)
  | .atShut => tellPlan (.changed v .closed) (comeToRest v .toClose s)
  | .between => s.setValve v { s.valves[v] with cause := .midTravel }
  | .contradictory => s.setValve v { s.valves[v] with cause := .contradiction }
  | .unknown => s

/-- The confirmed mark removed at the first contact event that judges the valve AT-SHUT (R55). -/
def unconfirm (v : ValveId) (s : State) : State :=
  let x : Valve := s.valves[v]
  if x.position = .atShut ∧ x.confirmed then s.setValve v { x with confirmed := false } else s

/-- A position acted on according to the valve's state (R51, R53, R55, R72). -/
def actOnPosition (v : ValveId) (s : State) : State :=
  let x : Valve := s.valves[v]
  match x.state, x.position with
  | .opening, .atOpen => arrive v .toOpen s
  | .closing, .atShut => arrive v .toClose s
  | .opening, .contradictory => faultTravel v .contradiction s
  | .closing, .contradictory => faultTravel v .contradiction s
  | .opened, .contradictory => faultAtRest v .contradiction s
  | .closed, .contradictory => faultAtRest v .contradiction s
  | .opened, .atShut => if x.confirmed then s else faultAtRest v .drift s
  | .opened, .between => if x.confirmed then s else faultAtRest v .drift s
  | .closed, .atOpen => if x.confirmed then s else faultAtRest v .drift s
  | .closed, .between => if x.confirmed then s else faultAtRest v .drift s
  | .fault, p => if x.cause = .unsettled then recover v p s else s
  | _, _ => s

/-- The judgment of one valve at a contact event that carries its position uses. -/
def judgeValve (v : ValveId) (s : State) : State :=
  if s.tables.valveOn v then actOnPosition v (unconfirm v s) else s

/-! ### Contact events at the Valve Unit -/

/-- A configured valve's pairs with one delivery taken in; a valve not configured takes no contact events (R50). -/
def takeValvePair (d : Delivery) (s : State) : State :=
  match d.use with
  | .valveOpen v => if s.tables.valveOn v then s.setValve v { s.valves[v] with openContact := d.left } else s
  | .valveShut v => if s.tables.valveOn v then s.setValve v { s.valves[v] with shutContact := d.left } else s
  | _ => s

/-- Every delivery's pair taken in. -/
def takeValvePairs (ds : List Delivery) (s : State) : State := inOrder ds takeValvePair s

/-- Whether a delivery carries a position use of a valve. -/
def Delivery.ofValve (d : Delivery) (v : ValveId) : Bool := d.use == .valveOpen v || d.use == .valveShut v

/-- The valves a contact event carries uses of. -/
def valvesOf (ds : List Delivery) : List ValveId := allValves.filter fun v => ds.any fun d => d.ofValve v

/-- A contact event judged: each carried valve in number order. -/
def judgeValves (ds : List Delivery) (s : State) : State := inOrder (valvesOf ds) judgeValve s

/-! ### Protection (R66, R67) -/

/-- A holder's order queue flushed. -/
def flushQueue (h : HolderId) (s : State) : State :=
  let n := s.controls[h].queue.length
  let s := s.setControl h { s.controls[h] with queue := [], lastFlush := n }
  if 0 < n then momentAlarm .queueFlushed (number h) s else s

/-- A close order with originator PROTECTION to a configured valve. -/
def protect (v : ValveId) (s : State) : State := if s.tables.valveOn v then (carryOut v .toClose .protection s).1 else s

/-- The protective demand of a limit that sets: the inlet closed for TOP and the outlet for BOTTOM (R66), and then the
queue flushed, once (R67). -/
def protectHolder (h : HolderId) (top bottom : Bool) (s : State) : State :=
  if top || bottom then
    let s := if top then protect (inletOf h) s else s
    flushQueue h (if bottom then protect (outletOf h) s else s)
  else s

/-! ### PLAN orders (R60) -/

/-- Whether a PLAN order that belongs to a record in flight is refused at the Valve Unit (R60). Every order of the plan
belongs to its changeover or SETTLE record, so a MANUAL holder is no ground. -/
def planRefused (s : State) (v : ValveId) (d : Direction) : Bool :=
  !s.tables.valveOn v ||
    (d == .toOpen && (if isInlet v then s.holders[ownerOf v].top else s.holders[ownerOf v].bottom))

/-- A PLAN order. One that reverses a hand operation ends the running entry that made it (R56, R65). -/
def planOrder (v : ValveId) (d : Direction) (s : State) : State :=
  if planRefused s v d then tellPlan (.ended v .refused (stateOf s v)) s
  else
    match carryOut v d .plan s with
    | (s, .reversedTravel) => afterEnd v s
    | (s, _) => s

/-! ### Timeout, confirmation, start-up, commit -/

/-- The travel timer of a travelling valve expires (R54). -/
def travelExpired (v : ValveId) (s : State) : State :=
  if s.tables.valveOn v && s.valves[v].state.travelling then faultTravel v .timeout s else s

/-- The operator's confirmation of a FAULT valve (R59). -/
def confirmValve (v : ValveId) (s : State) : State :=
  let x : Valve := s.valves[v]
  let s := s.setValve v { x.atRest .toClose with originator := .manual, confirmed := true }
  tellPlan (.changed v .closed) (endAlarm .valveFault (number v) s)

/-- A configured valve's state derived from its position, FAULT raising its condition (R71). -/
def deriveValve (v : ValveId) (s : State) : State :=
  let x : Valve := s.valves[v]
  let put (st : ValveState) (c : FaultCause) : State :=
    s.setValve v { x with state := st, drive := .undriven, timer := none, cause := c }
  let bad (c : FaultCause) : State := raiseAlarm .valveFault (number v) (put .fault c)
  match x.position with
  | .atOpen => put .opened .noCause
  | .atShut => put .closed .noCause
  | .between => bad .midTravel
  | .contradictory => bad .contradiction
  | .unknown => bad .unsettled

/-- The start-up derivation of every configured valve (R71). Those found in FAULT reach the Alarm List in the order V1
to V8 (log entry 47). -/
def deriveValves (s : State) : State :=
  inOrder allValves (fun v s => if s.tables.valveOn v then deriveValve v s else s) s

/-- A valve's record as a commit that configures it begins it, with the pairs its points show. -/
def freshValve (v : ValveId) (s : State) : Valve :=
  { Valve.startUp true with openContact := usePair s (.valveOpen v), shutContact := usePair s (.valveShut v) }

/-- The protective close of the inlet of a holder at TOP, or of the outlet of a holder at BOTTOM (R66). -/
def protectAtLimit (v : ValveId) (s : State) : State :=
  let h := ownerOf v
  if (if isInlet v then s.holders[h].top else s.holders[h].bottom) then flushQueue h (protect v s) else s

/-- A valve that a commit configures: derived from its contacts, and closed where its holder stands at a limit (R70). -/
def commissionValve (v : ValveId) (s : State) : State :=
  let s := deriveValve v (s.setValve v (freshValve v s))
  protectAtLimit v (tellPlan (.changed v s.valves[v].state) s)

/-- A valve brought to the new VALVE table (R70): `wasOn` says whether the old one configured it. -/
def commitValve (wasOn : Bool) (ds : List Delivery) (v : ValveId) (s : State) : State :=
  let x : Valve := s.valves[v]
  match wasOn, s.tables.valveOn v with
  | true, false =>
    tellPlan (.changed v .closed) <|
      (if x.cause = .noCause then id else endAlarm .valveFault (number v)) (s.setValve v (Valve.startUp false))
  | false, true => commissionValve v s
  | true, true => if ds.any (fun d => d.ofValve v) then judgeValve v s else s
  | false, false => s

/-- Each holder a commit makes configured or not configured has control AUTO and an empty queue (R70). -/
def commitControls (old : Tables) (s : State) : State :=
  inOrder allHolders (fun h s =>
    if old.holderOn h = s.tables.holderOn h then s else s.setControl h HolderControl.startUp) s

/-- The Valve Unit's part of a commit (R70), the valves taken in the order V1 to V8, each derived and closed before the
next (log entry 48). -/
def commitValves (old : Tables) (ds : List Delivery) (s : State) : State :=
  let s := takeValvePairs ds (commitControls old s)
  inOrder allValves (fun v s => commitValve (old.valveOn v) ds v s) s

end Sys2Proof.Machine
end

