-- ==== Sys2Proof/Machine/Plan.lean ====
section
/-! DEFINITION. Machine/Plan.lean: the Yard Plan (05_the_yard_plan.md): roles, decisions, changeovers, MAKE-HOLD,
SEND-SHORT and settling. -/

namespace Sys2Proof.Machine

/-! ### Valves of a role, eligibility -/

/-- A role's valve of a holder (R74). -/
def RoleKind.valve : RoleKind → HolderId → ValveId
  | .fill, h => inletOf h
  | .send, h => outletOf h

/-- Eligibility for fill, but for the holder's role in the HOLDER table (R76). -/
def eligibleFill (s : State) (h : HolderId) : Bool :=
  let r : HolderRec := s.holders[h]
  s.tables.holderOn h && s.controls[h].control == .auto && !r.high && !r.top &&
    stateOf s (inletOf h) != .fault && r.usable

/-- Eligibility for send (R76). -/
def eligibleSend (s : State) (h : HolderId) : Bool :=
  let r : HolderRec := s.holders[h]
  s.tables.holderOn h && s.controls[h].control == .auto && !r.low && !r.bottom &&
    stateOf s (outletOf h) != .fault && r.usable

/-- Eligibility for the role a record moves. -/
def eligibleFor (s : State) : RoleKind → HolderId → Bool
  | .fill, h => eligibleFill s h
  | .send, h => eligibleSend s h

/-- The start conditions of R81; `oldShut` counts the from-holder's valve among those that must be CLOSED, as the gap's
expiry does (R86). -/
def startAllowed (s : State) (k : RoleKind) (old new : Option HolderId) (oldShut : Bool) : Bool :=
  let named (h : HolderId) : Bool := new == some h || (old == some h && !oldShut)
  let within (h : HolderId) : Bool :=
    match k with
    | .send => s.tables.holderOn h
    | .fill => s.tables.isStore h
  let sound (h : HolderId) : Bool :=
    stateOf s (k.valve h) != .fault && (named h || stateOf s (k.valve h) == .closed)
  let ends (o : Option HolderId) : Bool :=
    match o with
    | some h => stateOf s (k.valve h) != .fault
    | none => true
  let shut : Bool :=
    match old with
    | some h => !oldShut || stateOf s (k.valve h) == .closed
    | none => true
  allHolders.all (fun h => !within h || sound h) && ends old && ends new && shut

/-! ### Roles -/

/-- The plan changed in place. -/
def onPlan (f : Plan → Plan) (s : State) : State := s.setPlan (f s.plan)

/-- Whether either of a record's holders is of a sort. -/
def Changeover.involves (c : Changeover) (f : HolderId → Bool) : Bool :=
  (c.old.map f).getD false || (c.new.map f).getD false

/-- The fill holder, where a fill record names a STORE holder. -/
def giveFill (c : Changeover) (h : Option HolderId) (s : State) : State :=
  if c.involves s.tables.isStore then
    onPlan (fun p => { p with fill := if (h.map s.tables.isStore).getD false then h else none }) s
  else s

/-- Relief-fill, where a fill record names the relief holder. -/
def giveReliefFill (c : Changeover) (h : Option HolderId) (s : State) : State :=
  if c.involves s.tables.isRelief then
    onPlan (fun p => { p with reliefFill := (h.map s.tables.isRelief).getD false }) s
  else s

/-- A kind's role given to a holder or to none. A fill role is the fill holder for a STORE holder and relief-fill for
the relief holder; a record governs of the two only what its holders are (R87). -/
def giveRole (c : Changeover) (h : Option HolderId) (s : State) : State :=
  match c.kind with
  | .send => onPlan (fun p => { p with send := h }) s
  | .fill => giveReliefFill c h (giveFill c h s)

/-- Whether a record's old or new valve stands in a state. -/
def roleValveIn (s : State) (k : RoleKind) (o : Option HolderId) (x : ValveState) : Bool :=
  match o with
  | some h => stateOf s (k.valve h) == x
  | none => false

/-- The role while a record stands, outside STUCK (R87). -/
def recordRole (c : Changeover) (s : State) : State :=
  giveRole c (if c.taken then c.new else if roleValveIn s c.kind c.old .closed then none else c.old) s

/-- The role while a record is STUCK (R89). -/
def stuckRole (c : Changeover) (s : State) : State :=
  giveRole c
    (if roleValveIn s c.kind c.new .opened then c.new
      else if roleValveIn s c.kind c.old .opened then c.old else none) s

/-! ### A record's ends -/

/-- The record replaced. -/
def putRecord (c : Changeover) (s : State) : State := onPlan (fun p => { p with record := some c }) s

/-- The record ended, with its freeze (R88). -/
def endRecord (s : State) : State := onPlan (fun p => { p with record := none, freeze := false }) s

/-- A valve joined to the awaited valves. -/
def Changeover.await (c : Changeover) (v : ValveId) : Changeover :=
  if c.awaited.contains v then c else { c with awaited := c.awaited ++ [v] }

/-- A record enters STUCK with a valve awaited, or a second valve joins those awaited (R89). -/
def enterStuck (c : Changeover) (v : ValveId) (s : State) : State :=
  let s := if c.phase = .stuck then s else raiseAlarm .changeoverStuck 0 s
  putRecord { c.await v with phase := .stuck, gap := none } (onPlan (fun p => { p with freeze := false }) s)

/-- A record ended with the role as R87 last gives it. -/
def finishRecord (c : Changeover) (s : State) : State := endRecord (recordRole c s)

/-! ### Advancing a record (R84 to R91) -/

/-- The gap timer expires (R86). Where the new valve may not be ordered the role goes to none, a new valve opened by
hand in GAP notwithstanding (log entry 52). -/
def gapExpired (c : Changeover) (s : State) : State :=
  match c.new with
  | none => finishRecord c s
  | some h =>
    if eligibleFor s c.kind h && startAllowed s c.kind c.old c.new true then
      planOrder (c.kind.valve h) .toOpen (putRecord { c with phase := .openNew, gap := none } s)
    else endRecord (giveRole c none s)

/-- The end of the open order in OPEN-NEW (R84), judged by the valve state delivered with it (log entry 39). -/
def openEnded (c : Changeover) (v : ValveId) (r : EndResult) (after : ValveState) (s : State) : State :=
  if (r = .arrived ∨ r = .present) ∧ after = .opened then
    let c := { c with taken := true }
    match c.method, c.old with
    | .mbb, some h =>
      planOrder (c.kind.valve h) .toClose (putRecord { c with phase := .closeOld } (recordRole c s))
    | _, _ => finishRecord c s
  else if r = .refused then if c.method = .mbb then finishRecord c s else endRecord (giveRole c none s)
  else enterStuck c v s

/-- The end of the close order in CLOSE-OLD (R85), judged by the valve state delivered with it (log entry 39). -/
def closeEnded (c : Changeover) (v : ValveId) (r : EndResult) (after : ValveState) (s : State) : State :=
  if (r = .arrived ∨ r = .present) ∧ after = .closed then
    if c.method = .mbb ∨ c.new = none then finishRecord c s
    else
      let c := { c with phase := .gap, gap := some 0 }
      let s := putRecord c (recordRole c s)
      if s.tables.yard.gapTime = 0 then gapExpired c s else s
  else enterStuck c v s

/-- Whether a valve is the record's old or new valve. -/
def Changeover.oldValve (c : Changeover) : Option ValveId := c.old.map c.kind.valve
def Changeover.newValve (c : Changeover) : Option ValveId := c.new.map c.kind.valve

/-- A delivery that ends no phase, at a record's own valve. A fault puts the record in STUCK or joins those awaited
there (R89). A new valve that becomes OPEN otherwise than by the record's open order, as by hand in GAP, gives its
holder the role (R87) and lifts a send record's freeze (R88). -/
def noteValve (c : Changeover) (v : ValveId) (after : ValveState) (s : State) : State :=
  if after = .fault then if c.oldValve = some v ∨ c.newValve = some v then enterStuck c v s else s
  else if after = .opened ∧ c.newValve = some v ∧ c.phase ≠ .stuck then
    onPlan (fun p => { p with record := some { c with taken := true },
                              freeze := p.freeze && decide (c.kind ≠ .send) }) s
  else s

/-- Whether an end that leaves a valve in a state is that of the record's order in a direction: a REVERSED end that
leaves the valve driven that very way is of an earlier order, which the record's own has just turned (log entry 43). -/
def ownEnd (d : Direction) (r : EndResult) (after : ValveState) : Bool := r != .reversed || after != d.travel

/-- One delivery of the Valve Unit at a standing record (R84, R85, R89), those of one event in the Valve Unit's order
(log entry 61). -/
def takeNote (s : State) (n : PlanNote) : State :=
  match s.plan.record with
  | none => s
  | some c =>
    match n with
    | .changed v after => noteValve c v after s
    | .ended v r after =>
      if c.phase = .openNew ∧ c.newValve = some v ∧ ownEnd .toOpen r after then openEnded c v r after s
      else if c.phase = .closeOld ∧ c.oldValve = some v ∧ ownEnd .toClose r after then closeEnded c v r after s
      else noteValve c v after s

/-- A record in flight as its event leaves it: the role of R87, or of R89 with the end of R90. -/
def settleRecord (s : State) : State :=
  match s.plan.record with
  | none => s
  | some c =>
    if c.phase = .stuck then
      let s := stuckRole c s
      if c.awaited.all (fun v => stateOf s v == .closed) then endAlarm .changeoverStuck 0 (endRecord s) else s
    else recordRole c s

/-- The SETTLE record loses its CLOSED valves and ends with the last (R95), by the state a valve holds when the plan
judges (log entry 51). -/
def advanceSettle (s : State) : State :=
  match s.plan.settle with
  | none => s
  | some l =>
    let left := l.filter fun v => stateOf s v != .closed
    onPlan (fun p => { p with settle := if left.isEmpty then none else some left }) s

/-- Step 1 of R77. Several deliveries of one event are taken one after the other in the order in which the Valve Unit
made them (log entry 61). -/
def advance (expiry : Bool) (notes : List PlanNote) (s : State) : State :=
  let s := notes.foldl takeNote s
  let s :=
    match s.plan.record with
    | some c => if expiry && c.phase == .gap then gapExpired c s else s
    | none => s
  advanceSettle (settleRecord s)

/-! ### Roles that follow their valves (R78) -/

/-- Whether a note says that a valve became OPEN, where it still is (log entry 50). -/
def becameOpen (s : State) (notes : List PlanNote) (v : ValveId) : Bool :=
  stateOf s v == .opened && notes.any fun n =>
    match n with
    | .ended w _ after => w == v && after == .opened
    | .changed w after => w == v && after == .opened

/-- Whether a changeover of a kind stands. -/
def recordKind (s : State) (k : RoleKind) : Bool := (s.plan.record.map fun c => c.kind == k).getD false

/-- Whether a fill record stands that names a holder of the given sort. -/
def fillRecordNames (s : State) (f : HolderId → Bool) : Bool :=
  match s.plan.record with
  | some c => c.kind == .fill && c.involves f
  | none => false

/-- A role kept until its valve is CLOSED, and while it is none taken by a holder whose valve becomes OPEN, the
lower-numbered of two (log entry 40); both by the state the valve holds when the plan judges (log entry 50). -/
def followValve (s : State) (notes : List PlanNote) (k : RoleKind) (may : HolderId → Bool)
    (role : Option HolderId) : Option HolderId :=
  match role with
  | some h =>
    if stateOf s (k.valve h) = .closed then
      allHolders.find? fun g => may g && becameOpen s notes (k.valve g)
    else some h
  | none => allHolders.find? fun g => may g && becameOpen s notes (k.valve g)

/-- Relief-fill after an event that no record governs it in. -/
def followRelief (s : State) (notes : List PlanNote) : Bool :=
  match s.tables.relief with
  | some h =>
    if becameOpen s notes (inletOf h) then true
    else s.plan.reliefFill && stateOf s (inletOf h) != .closed
  | none => false

/-- Step 2 of R77. -/
def followRoles (notes : List PlanNote) (s : State) : State :=
  let send := if recordKind s .send then s.plan.send else followValve s notes .send s.tables.holderOn s.plan.send
  let fill :=
    if fillRecordNames s s.tables.isStore then s.plan.fill
    else followValve s notes .fill s.tables.isStore s.plan.fill
  let reliefFill := if fillRecordNames s s.tables.isRelief then s.plan.reliefFill else followRelief s notes
  onPlan (fun p => { p with send := send, fill := fill, reliefFill := reliefFill }) s

/-! ### MAKE-HOLD and SEND-SHORT (R92, R93) -/

/-- Whether MAKE-HOLD is to be asserted. -/
def makeHoldDue (s : State) : Bool :=
  !allHolders.any fun h => s.tables.holderOn h && stateOf s (inletOf h) == .opened

/-- MAKE-HOLD judged. -/
def judgeMakeHold (s : State) : State :=
  let due := makeHoldDue s
  let rose := !s.plan.makeHold && due
  let s := onPlan (fun p => { p with makeHold := due }) s
  if rose then markPeriods Flags.ofMakeHold s else s

/-- Whether SEND-SHORT stands (R93). -/
def sendShortDue (s : State) : Bool :=
  match s.plan.send with
  | none =>
    !(match s.plan.record with
      | some c => c.kind == .send && c.phase != .stuck
      | none => false)
  | some h => s.holders[h].low && !allHolders.any fun g => decide (g ≠ h) && eligibleSend s g

/-- SEND-SHORT judged, in RUN alone (R98). -/
def judgeSendShort (s : State) : State :=
  if s.part = .run then
    let due := sendShortDue s
    let rose := !s.plan.sendShort && due
    let s := alarmChange .sendShort 0 s.plan.sendShort due (onPlan (fun p => { p with sendShort := due }) s)
    if rose then markPeriods Flags.ofSendShort s else s
  else s

/-! ### Starting a changeover (R81 to R83) -/

/-- The pressures agree within the parallel tolerance, both measured (R82), by the channels' statuses as they stand,
after a commit at once (log entry 45). -/
def pressuresAgree (s : State) (a b : HolderId) : Bool :=
  s.channels[pressureChannel a].usable && s.channels[pressureChannel b].usable &&
    decide (|s.holders[a].pressure - s.holders[b].pressure| ≤ s.tables.yard.tolerance)

/-- The method of a changeover (R82). -/
def methodOf (s : State) (k : RoleKind) (old new : Option HolderId) : Method :=
  match old, new with
  | some a, some b =>
    if k = .fill ∧ s.tables.isStore a ∧ s.tables.isRelief b then .mbb
    else if stateOf s (k.valve a) = .opened ∧ pressuresAgree s a b ∧ s.holders[a].disagree = false ∧
        s.holders[b].disagree = false then .mbb
    else .bbm
  | _, _ => .bbm

/-- A changeover started, where R81 allows it. -/
def startChangeover (k : RoleKind) (old new : Option HolderId) (s : State) : State :=
  if startAllowed s k old new false then
    let m := methodOf s k old new
    let c : Changeover :=
      { kind := k, old := old, new := new, method := m, phase := .openNew, awaited := [], gap := none, taken := false }
    match m, old, new with
    | .bbm, some a, _ =>
      planOrder (k.valve a) .toClose
        (onPlan (fun p => { p with record := some { c with phase := .closeOld },
                                   freeze := if k = .send then true else p.freeze }) s)
    | _, _, some b => planOrder (k.valve b) .toOpen (putRecord c s)
    | _, _, none => s
  else s

/-! ### The decisions (R79, R80) -/

/-- The candidate of the send decision. -/
def sendCandidate (s : State) : Option HolderId :=
  match s.tables.relief with
  | some r => if eligibleSend s r then some r else s.retained.sendOrder.find? (eligibleSend s)
  | none => s.retained.sendOrder.find? (eligibleSend s)

/-- Whether a holder is MANUAL. -/
def isManual (s : State) (h : HolderId) : Bool := s.controls[h].control == .manual

/-- What the send decision starts. -/
def sendChoice (s : State) : Option (Option HolderId × HolderId) :=
  match s.plan.send, sendCandidate s with
  | none, some c => some (none, c)
  | some h, some c =>
    if isManual s h then none
    else if c ≠ h ∧ (!eligibleSend s h || s.tables.isRelief c || s.plan.sendMark) then some (some h, c)
    else none
  | _, none => none

/-- The send decision (R79). -/
def sendDecision (s : State) : State :=
  let choice := sendChoice s
  let s := onPlan (fun p => { p with sendMark := false }) s
  match choice with
  | some (old, c) => startChangeover .send old (some c) s
  | none => s

/-- The store candidate of the fill decision. -/
def storeCandidate (s : State) : Option HolderId :=
  s.retained.fillOrder.find? fun h => s.tables.isStore h && eligibleFill s h

/-- The relief holder where it is fit. -/
def fitRelief (s : State) : Option HolderId :=
  match s.tables.relief with
  | some r => if eligibleFill s r then some r else none
  | none => none

/-- The relief holder where it is AUTO. -/
def autoRelief (s : State) : Option HolderId :=
  match s.tables.relief with
  | some r => if isManual s r then none else some r
  | none => none

/-- The fill decision with no fill holder (R80, 2 and 5). -/
def fillChoiceNone (s : State) : Option (Option HolderId × Option HolderId) :=
  if s.plan.reliefFill then
    match storeCandidate s with
    | some c => some (s.tables.relief, some c)
    | none => if (fitRelief s).isNone && (autoRelief s).isSome then some (s.tables.relief, none) else none
  else
    match storeCandidate s with
    | some c => some (none, some c)
    | none => (fitRelief s).map fun r => (none, some r)

/-- The fill decision with a fill holder (R80, 1, 3 and 4). -/
def fillChoiceSome (s : State) (f : HolderId) : Option (Option HolderId × Option HolderId) :=
  if s.plan.reliefFill && (autoRelief s).isSome then some (s.tables.relief, none)
  else if eligibleFill s f then
    match storeCandidate s with
    | some c => if s.plan.fillMark ∧ c ≠ f then some (some f, some c) else none
    | none => none
  else
    match storeCandidate s, fitRelief s with
    | some c, _ => some (some f, some c)
    | none, some r => some (some f, some r)
    | none, none => if isManual s f then none else some (some f, none)

/-- What the fill decision starts. -/
def fillChoice (s : State) : Option (Option HolderId × Option HolderId) :=
  match s.plan.fill with
  | some f => fillChoiceSome s f
  | none => fillChoiceNone s

/-- The fill decision (R80). -/
def fillDecision (s : State) : State :=
  let choice := fillChoice s
  let s := onPlan (fun p => { p with fillMark := false }) s
  match choice with
  | some (old, new) => startChangeover .fill old new s
  | none => s

/-- Step 4 of R77. -/
def decideRoles (s : State) : State :=
  if s.part = .run ∧ s.plan.record.isNone ∧ s.plan.settle.isNone then
    let s := sendDecision s
    if s.plan.record.isNone then fillDecision s else s
  else s

/-! ### A plan event (R77) -/

/-- Whether the start-up has reached the derivation of plan roles (R98). -/
def planAwake (s : State) : Bool := s.part != .startUp || s.startUp.derived

/-- Steps 1 to 3 with the deliveries now in the inbox, then what they change for the governors. -/
def planSteps (judge expiry : Bool) (s : State) : State :=
  let notes := s.plan.inbox
  let s := advance expiry notes (onPlan (fun p => { p with inbox := [] }) s)
  deliverPlan judge (judgeSendShort (judgeMakeHold (followRoles notes s)))

/-- One event at the plan, and the valve events its own orders make in turn (R60). The count bounds those (log entry
9); the last event takes no decision. -/
def planRounds (judge : Bool) : Nat → Bool → State → State
  | 0, expiry, s => onPlan (fun p => { p with inbox := [] }) (planSteps judge expiry s)
  | n + 1, expiry, s =>
    let s := deliverPlan judge (decideRoles (planSteps judge expiry s))
    if s.plan.inbox.isEmpty then s else planRounds judge n false s

/-- An event at the plan. -/
def planEventWith (judge expiry : Bool) (s : State) : State :=
  if planAwake s then planRounds judge Config.planFuel expiry s else onPlan (fun p => { p with inbox := [] }) s

/-- An event at the plan that is neither the gap's expiry nor a commit. -/
def planEvent (s : State) : State := planEventWith true false s

/-- The plan takes what the Valve Unit delivered, if anything. -/
def planNotes (s : State) : State := if s.plan.inbox.isEmpty then s else planEvent s

/-! ### Deriving roles (R94) -/

/-- An order of preference followed by the holders it lacks. -/
def workingOrder (order : List HolderId) : List HolderId := order ++ allHolders.filter fun h => !order.contains h

/-- The holders of a sort whose valve of a kind is not CLOSED, in the working order. -/
def standingOpen (s : State) (k : RoleKind) (may : HolderId → Bool) (order : List HolderId) : List HolderId :=
  (workingOrder order).filter fun h => may h && stateOf s (k.valve h) != .closed

/-- The kept holder: the role's present holder where it is among those standing open, else the first of them. -/
def keptHolder (role : Option HolderId) (l : List HolderId) : Option HolderId :=
  match role with
  | some h => if l.contains h then some h else l.head?
  | none => l.head?

/-- A kept holder holds the role while its valve is OPEN. -/
def keptRole (s : State) (k : RoleKind) (kept : Option HolderId) : Option HolderId :=
  if roleValveIn s k kept .opened then kept else none

/-- The valves of the holders other than the kept one. -/
def otherValves (k : RoleKind) (l : List HolderId) (kept : Option HolderId) : List ValveId :=
  (l.filter fun h => kept != some h).map k.valve

/-- The roles derived from the valve states, with the SETTLE record and its closes (R94). -/
def deriveRoles (s : State) : State :=
  let outs := standingOpen s .send s.tables.holderOn s.retained.sendOrder
  let ins := standingOpen s .fill s.tables.isStore s.retained.fillOrder
  let keptSend := keptHolder s.plan.send outs
  let keptFill := keptHolder s.plan.fill ins
  let others := otherValves .send outs keptSend ++ otherValves .fill ins keptFill
  let list := (allValves.filter fun v => others.contains v).take 6
  let relief := (s.tables.relief.map fun h => stateOf s (inletOf h) == .opened).getD false
  let s := onPlan (fun p => { p with
    send := keptRole s .send keptSend, fill := keptRole s .fill keptFill, reliefFill := relief, inbox := []
    settle := if list.isEmpty then none else some list }) s
  inOrder list (fun v s => planOrder v .toClose s) s

/-- PLAN-SET at the plan (R75). -/
def setOrders (fill send : List HolderId) (s : State) : State :=
  let s := s.setRetained { s.retained with fillOrder := fill, sendOrder := send }
  planEvent (onPlan (fun p => { p with fillMark := true, sendMark := true }) s)

end Sys2Proof.Machine
end

