-- ==== Sys2Proof/Machine/Answers.lean ====
section
/-! DEFINITION. Machine/Answers.lean: the bodies of the answers (R193 to R197). A body that R197 leaves to its rule's
table carries that table's items in order: a number as 4 bytes signed, an enumeration or mark as 1 byte, an absent item
as all FFh. -/

namespace Sys2Proof.Machine

/-! ### Items -/

/-- A number of a body that is not laid out. -/
def num (x : Int) : List Byte := signedBytes 4 x

/-- A number that may be absent. -/
def optNum (x : Option Int) : List Byte := (x.map num).getD (absentBytes 4)

/-- A natural number that may be absent. -/
def optNat (x : Option Nat) : List Byte := optNum (x.map Int.ofNat)

/-- A figure of 8 bytes (R197). -/
def wide (x : Int) : List Byte := signedBytes 8 x

/-- A mark. -/
def mark (b : Bool) : List Byte := [flagByte b]

/-- A position in a list of values. -/
def pos (n : Nat) : List Byte := [BitVec.ofNat 8 n]

/-- A holder's number, 0 for none. -/
def holderNumber (h : Option HolderId) : Nat := (h.map number).getD 0

/-- A timer's seconds in 4 bytes, or stopped. -/
def timerNum (t : Timer) : List Byte := optNat (t.map seconds)

/-- A timer's seconds in 2 bytes, or stopped. -/
def timerTwo (t : Timer) : List Byte := (t.map fun e => unsignedBytes 2 (seconds e)).getD (absentBytes 2)

/-- A stage: LANDED is 0 and INVALID is FFh (R193). -/
def stageByte (x : Option Nat) : Byte := (x.map (BitVec.ofNat 8)).getD 0xFF

/-! ### Positions of the enumerations, each in the list its rule gives -/

def ChannelStatus.pos : ChannelStatus → Nat
  | .valid => 0
  | .held => 1
  | .stale => 2
  | .off => 3

def LoopFault.pos : LoopFault → Nat
  | .noFault => 0
  | .openLoop => 1
  | .shortLoop => 2

def StageSource.pos : StageSource → Nat
  | .height => 0
  | .switch => 1
  | .pressure => 2
  | .nowhere => 3

def ValveState.pos : ValveState → Nat
  | .closed => 0
  | .opening => 1
  | .opened => 2
  | .closing => 3
  | .fault => 4

def Position.pos : Position → Nat
  | .atOpen => 0
  | .atShut => 1
  | .between => 2
  | .contradictory => 3
  | .unknown => 4

def Drive.pos : Drive → Nat
  | .openLine => 0
  | .closeLine => 1
  | .undriven => 2

def Originator.pos : Originator → Nat
  | .plan => 0
  | .protection => 1
  | .manual => 2
  | .nobody => 3

def FaultCause.pos : FaultCause → Nat
  | .timeout => 0
  | .contradiction => 1
  | .drift => 2
  | .midTravel => 3
  | .unsettled => 4
  | .noCause => 5

def Control.pos : Control → Nat
  | .auto => 0
  | .manual => 1

/-- The four hand orders, numbered 1 to 4 in the order of R63 (R196). -/
def HandOrder.place : HandOrder → Nat
  | .openInlet => 1
  | .closeInlet => 2
  | .openOutlet => 3
  | .closeOutlet => 4

/-- The four interlocks, numbered 1 to 4 in the order of R64 (R196). -/
def Interlock.place : Interlock → Nat
  | .outletInUse => 1
  | .inletInUse => 2
  | .atTop => 3
  | .atBottom => 4

def RoleKind.pos : RoleKind → Nat
  | .fill => 0
  | .send => 1

def Method.pos : Method → Nat
  | .mbb => 0
  | .bbm => 1

def Phase.pos : Phase → Nat
  | .openNew => 0
  | .closeOld => 1
  | .gap => 2
  | .stuck => 3

def RateBasis.pos : RateBasis → Nat
  | .countBased => 0
  | .intervalBased => 1
  | .zero => 2

def CheckState.pos : CheckState → Nat
  | .idle => 0
  | .armed => 1
  | .running => 2
  | .finished => 3
  | .timedOut => 4
  | .aborted => 5

def CheckCause.pos : CheckCause → Nat
  | .requested => 0
  | .countLimit => 1

def TrimDecision.pos : TrimDecision → Nat
  | .raised => 0
  | .lowered => 1
  | .kept => 2

def BoosterState.pos : BoosterState → Nat
  | .idle => 0
  | .starting => 1
  | .running => 2
  | .runOn => 3
  | .failed => 4

def BoosterCause.pos : BoosterCause → Nat
  | .noStart => 0
  | .quitRunning => 1

def Presence.pos : Presence → Nat
  | .unknown => 0
  | .present => 1
  | .absent => 2

def Freshness.pos : Freshness → Nat
  | .fresh => 0
  | .stale => 1
  | .noReading => 2

def AskFunction.pos : AskFunction → Nat
  | .readPoint => 0
  | .readStatus => 1
  | .echo => 2

def Gating.pos : Gating → Nat
  | .accepted => 0
  | .heldOld => 1
  | .heldAged => 2
  | .noUpdate => 3

def LineState.pos : LineState → Nat
  | .calling => 0
  | .polling => 1
  | .holding => 2
  | .held => 3
  | .manualBusy => 4

def EntryState.pos : EntryState → Nat
  | .raised => 0
  | .standing => 1
  | .ended => 2

def PartState.pos : PartState → Nat
  | .startUp => 0
  | .unconfigured => 1
  | .run => 2

/-- An absent enumeration is FFh. -/
def optPos (x : Option Nat) : List Byte := (x.map fun n => [BitVec.ofNat 8 n]).getD (absentBytes 1)

/-- A station code among READY, OLD and WAIT; the byte for any other is free (log entry 6). -/
def codeItem (c : Byte) : Byte :=
  if c = codeReady then 0 else if c = codeOld then 1 else if c = codeWait then 2 else Config.unknownCode c

/-- The result of an ask, then its station code, each absent where there is none (R141). -/
def resultItems (r : Option AskResult) : List Byte :=
  match r with
  | none => absentBytes 2
  | some (.good c) => [0, codeItem c]
  | some .noAnswer => [1, 0xFF]
  | some .badCheck => [2, 0xFF]
  | some .wrongStation => [3, 0xFF]
  | some .aborted => [4, 0xFF]

/-! ### CHANNEL-READ and CONTACT-READ (R14, R24) -/

def channelBody (s : State) (c : ChannelId) : List Byte :=
  let r : Channel := s.channels[c]
  num c.val ++ mark (s.tables.channelOn c) ++ pos r.status.pos ++ pos r.fault.pos ++ num r.age ++ num r.raw ++
    optNat r.lastGood ++ num r.value ++ num r.smoothed

/-- One contact's byte (R197). The value bit of an absent candidate or debounced state, and bit 7, are 0 (log entry 46).
-/
def pointByte (p : Point) : Byte :=
  let made (r : Option Reading) : Nat := if r = some .made then 1 else 0
  BitVec.ofNat 8 (made (some p.reading) + 2 * p.candidate.isSome.toNat + 4 * made p.candidate +
    8 * p.debounced.isSome.toNat + 16 * made p.debounced + 32 * p.valid.toNat + 64 * p.active.toNat)

/-- The body of CONTACT-READ (R24, R197), from the scan state as it stands: a point's active field that a commit worked
afresh under its new polarity (R22) is given at once, before the next cycle end (log entry 58). -/
def contactBody (s : State) : List Byte :=
  s.returns.toList.flatMap (fun r => mark r.stuck ++ mark r.run) ++ s.points.toList.map pointByte

/-! ### HOLDER-READ (R49, R73, R196) -/

/-- A holder's mode (R68). -/
def modeOf (s : State) (h : HolderId) : Nat :=
  (if stateOf s (inletOf h) != .closed then 1 else 0) + (if stateOf s (outletOf h) != .closed then 2 else 0)

/-- A holder's plan role (R99): FILL, SEND, RELIEF-FILL or none (R49). -/
def planRole (s : State) (h : HolderId) : Nat :=
  if s.plan.send = some h then 1
  else if s.plan.fill = some h then 0
  else if s.tables.isRelief h ∧ s.plan.reliefFill then 2
  else 3

/-- One valve's 14 bytes. -/
def valveItems (s : State) (v : ValveId) : List Byte :=
  let x : Valve := s.valves[v]
  let e : ValveEntry := s.tables.valve[v]
  pos x.state.pos ++ pos x.position.pos ++ pos x.drive.pos ++ pos x.originator.pos ++ timerTwo x.timer ++
    (x.lastTravel.map fun n => unsignedBytes 2 n).getD (absentBytes 2) ++ pos x.cause.pos ++ mark x.confirmed ++
    unsignedBytes 2 e.timeout ++ unsignedBytes 2 e.slow

/-- One queue entry (R196). -/
def queueByte (e : QueueEntry) : Byte := BitVec.ofNat 8 (e.order.place + if e.running then 128 else 0)

/-- The eight queue places, 0 after the last entry. -/
def queueBytes (q : List QueueEntry) : List Byte := (q.map queueByte ++ List.replicate 8 0).take 8

/-- The limits byte. -/
def limitsByte (r : HolderRec) : Byte :=
  BitVec.ofNat 8 (r.high.toNat + 2 * r.top.toNat + 4 * r.low.toNat + 8 * r.bottom.toNat)

def holderBody (s : State) (h : HolderId) : List Byte :=
  let r : HolderRec := s.holders[h]
  let c : HolderControl := s.controls[h]
  let e : HolderEntry := s.tables.holder[h]
  pos (number h) ++ mark (s.tables.holderOn h) ++ pos e.role.toNat ++ unsignedBytes 2 r.height ++
    mark r.usable ++ [stageByte r.heightStage, stageByte r.switchStage, stageByte r.pressureStage,
      stageByte (some r.selected)] ++ pos r.stageFrom.pos ++ mark r.disagree ++ timerTwo r.disagreeTimer ++
    [limitsByte r] ++ signedBytes 2 r.pressure ++ unsignedBytes 4 r.volume ++ unsignedBytes 4 r.capacity ++
    unsignedBytes 4 r.stock ++ mark r.estimated ++ pos c.control.pos ++ pos (modeOf s h) ++ pos (planRole s h) ++
    valveItems s (inletOf h) ++ valveItems s (outletOf h) ++ pos c.queue.length ++ queueBytes c.queue ++
    pos c.lastFlush ++
    match c.lastInterlock with
    | some (o, i) => pos o.place ++ pos i.place
    | none => [0, 0]

/-! ### METER-READ (R117) -/

/-- The check record; its gate time is absent while the gate is open (log entry 44). -/
def checkItems (c : Check) : List Byte :=
  pos c.state.pos ++ optNat (c.target.map Fin.val) ++ num c.pulses ++ num c.tolerance ++ num c.targetCount ++
    num c.checkCount ++ timerNum c.timer ++ optNat c.gateTime ++ optNum c.ratio ++ optPos (c.cause.map CheckCause.pos)

/-- The hour accumulator of P0 to P4, absent for P5. -/
def accumulatorItem (s : State) (p : PulseId) : List Byte :=
  match fromIndex 5 p.val with
  | some i => wide s.account.accumulators[i]
  | none => absentBytes 8

def meterBody (s : State) (p : PulseId) : List Byte :=
  let m : Meter := s.meters[p]
  let rate := rateOf s.tables s p
  num p.val ++ mark (s.tables.meterOn p) ++ num s.tables.meter[p].pulseVolume ++ num m.count ++ mark m.stage ++
    mark m.saturated ++ mark m.full ++ optNat m.interval ++ optNat m.lastInterval ++ optNat m.lastFull ++
    wide rate.1 ++ pos rate.2.pos ++ (m.lastVolume.map wide).getD (absentBytes 8) ++ mark m.lastEstimated ++
    accumulatorItem s p ++ checkItems s.check

/-! ### DISTRICT-READ (R139) -/

def boosterItems (s : State) : List Byte :=
  let b : Booster := s.booster
  pos b.state.pos ++ mark b.demand ++ pos (if b.runLine then 0 else 1) ++ timerNum b.startTimer ++
    timerNum b.runOnTimer ++ mark b.contact.active ++ mark b.contact.valid ++ optPos (b.cause.map BoosterCause.pos) ++
    num (runOnSeconds s.tables.yard.runOnCode)

def districtBody (s : State) (d : DistrictId) : List Byte :=
  let r : District := s.districts[d]
  let o : Channel := s.channels[outletChannel d]
  num (number d) ++ mark (s.tables.districtOn d) ++ num s.tables.district[d].station ++ num (r.slot.getD 48 : Nat) ++
    num r.profileTerm ++ num r.loadTerm ++ wide r.load ++ num s.retained.trims[d] ++ optNum r.trimBefore ++
    optNum (r.lastDecision.map Prod.fst) ++ optPos (r.lastDecision.map fun x => x.2.pos) ++ num r.staticCap ++
    num r.cap ++ num r.wanted ++ num r.target ++ num r.setpoint ++ mark r.feedShort ++ mark r.frozen ++
    pos (if r.driven then 0 else 1) ++ (if r.driven then num r.setpoint else absentBytes 4) ++ num o.smoothed ++
    pos o.status.pos ++ num (holderNumber s.press.send) ++ num s.press.feed ++ num s.press.available ++ boosterItems s

/-! ### STATION-READ and LINE-RESULT (R152) -/

def askItems (a : Option Ask) : List Byte :=
  match a with
  | some a => num (number a.station) ++ pos a.function.pos ++ num a.argument.toNat ++ pos (if a.manual then 1 else 0)
  | none => absentBytes 10

def stationBody (s : State) (n : StationId) : List Byte :=
  let r : Station := s.stations[n]
  let e : StationEntry := s.tables.station[n]
  let l : Line := s.line
  num (number n) ++ mark (s.tables.stationOn n) ++ num e.district ++ mark (isYes e.acceptOld) ++ num e.staleLimit ++
    pos r.presence.pos ++ num r.misses ++ optNum r.reading ++ num r.age ++ pos r.freshness.pos ++
    resultItems r.lastResult ++ optPos (r.lastGating.map Gating.pos) ++ pos l.state.pos ++ askItems l.ask ++
    mark l.quiet.isSome ++ num l.round ++ mark l.firstRound ++ pos l.roundList.length ++
    l.roundList.flatMap (fun m => num (number m)) ++ mark l.freePending

def resultBody (s : State) : List Byte :=
  match s.line.manualResult with
  | some m =>
    mark true ++ num (number m.station) ++ pos m.function.pos ++ num m.argument.toNat ++ mark m.result.isSome ++
      resultItems m.result ++ optNum m.value ++ optNat m.age ++ optPos (m.gating.map Gating.pos)
  | none => mark false ++ absentBytes 21

/-! ### ALARM-READ, ACCOUNT-READ, CLOCK-READ, TABLE-READ -/

/-- One alarm entry's 12 bytes (R197). -/
def alarmItems (e : AlarmEntry) : List Byte :=
  pos e.kind.sourceType ++ pos e.index ++ pos e.kind.code ++ pos e.state.pos ++ unsignedBytes 2 e.time.day ++
    unsignedBytes 4 (e.time.second + if e.clockUnset then 2147483648 else 0 : Nat) ++ unsignedBytes 2 e.repeats

def alarmBody (s : State) (start : Nat) : List Byte :=
  let l := (s.alarms.entries.drop (start - 1)).take 16
  pos s.alarms.entries.length ++ mark s.alarms.listFull ++ mark s.alarms.attention ++ pos l.length ++
    l.flatMap alarmItems

/-- A record's sequence number in 2 bytes, absent in an empty queue. -/
def sequenceItem (r : Option Record) : List Byte :=
  (r.map fun r => unsignedBytes 2 r.sequence).getD (absentBytes 2)

def accountBody (s : State) (r : Option Record) : List Byte :=
  let a : Account := s.account
  let bytes := (r.map Record.bytes).getD []
  pos a.queue.length ++ sequenceItem a.queue.head? ++ sequenceItem a.queue.getLast? ++
    unsignedBytes 2 a.nextSequence ++ mark a.running ++ pos bytes.length ++ bytes

def clockBody (s : State) : List Byte :=
  num s.clock.day ++ num s.clock.second ++ mark s.retained.clockSet ++ pos s.part.pos

/-- The entries of a table from one index onward (R189, R193). -/
def tableBody (t : Tables) (no first count : Nat) : List Byte :=
  (List.range count).flatMap fun i => (t.entry no (first + i)).flatMap (signedBytes 4)

/-! ### YARD-STATUS (R197) -/

/-- An order of preference: its count and four places. -/
def orderItems (l : List HolderId) : List Byte :=
  pos l.length ++ ((l.map fun h => BitVec.ofNat 8 (number h)) ++ List.replicate 4 0).take 4

/-- A list of valves in a number of places. -/
def valvePlaces (n : Nat) (l : List ValveId) : List Byte :=
  ((l.map fun v => BitVec.ofNat 8 (number v)) ++ List.replicate n 0).take n

/-- The changeover record's ten bytes (R197): an absent record is 0 and FFh throughout (log entry 15), and a record
outside STUCK, which awaits no valve, gives 0 for both awaited valves (log entry 64). -/
def recordItems (c : Option Changeover) : List Byte :=
  match c with
  | some c =>
    mark true ++ pos c.kind.pos ++ pos (holderNumber c.old) ++ pos (holderNumber c.new) ++ pos c.method.pos ++
      pos c.phase.pos ++ valvePlaces 2 c.awaited ++ timerTwo c.gap
  | none => mark false ++ absentBytes 9

/-- Bits of a bank of marks, the first the least significant. -/
def bitsOf (l : List Bool) : Byte := BitVec.ofNat 8 (l.foldr (fun b acc => b.toNat + 2 * acc) 0)

/-- The body of YARD-STATUS (R197). Without a SETTLE record its SETTLE bytes are a count of 0 and six 0s (log entry 63).
-/
def yardBody (s : State) : List Byte :=
  let p : Plan := s.plan
  pos s.part.pos ++ unsignedBytes 2 s.clock.day ++ unsignedBytes 4 s.clock.second ++ mark s.retained.clockSet ++
    mark s.alarms.attention ++ mark s.alarms.listFull ++ pos s.alarms.entries.length ++ mark p.makeHold ++
    mark (s.staged != s.tables) ++ allValves.flatMap (fun v => pos s.valves[v].state.pos) ++
    allHolders.flatMap (fun h => if s.tables.holderOn h then pos s.controls[h].control.pos else absentBytes 1) ++
    pos (holderNumber p.fill) ++ mark p.reliefFill ++ pos (holderNumber p.send) ++ orderItems s.retained.fillOrder ++
    orderItems s.retained.sendOrder ++ [bitsOf [p.fillMark, p.sendMark]] ++ mark p.freeze ++ mark p.sendShort ++
    recordItems p.record ++ pos ((p.settle.map List.length).getD 0) ++ valvePlaces 6 (p.settle.getD []) ++
    pos s.booster.state.pos ++ mark s.booster.demand ++
    allDistricts.flatMap (fun d => unsignedBytes 2 s.districts[d].setpoint) ++
    [bitsOf (allDistricts.map fun d => s.districts[d].feedShort)] ++ pos s.line.state.pos ++ mark s.account.running ++
    pos s.account.queue.length ++ pos s.check.state.pos

end Sys2Proof.Machine
end

