-- ==== Sys2Proof/Machine/Checks.lean ====
section
/-! DEFINITION. Machine/Checks.lean: what a TABLE-COMMIT is judged by (R190): the three busy blocks, then the staged
tables in the order of their numbers, each entry's checks in the order its own chapter gives. A check that refers to
another table reads that table's staged copy. -/

namespace Sys2Proof.Machine

/-- One check of an entry: the field it is judged at, counting from 1, and whether it holds. -/
abbrev Check1 := Nat × Bool

/-- Whether a figure lies in a range. -/
def within (a b x : Int) : Bool := decide (a ≤ x ∧ x ≤ b)

/-- A yes-or-no field holds one of its values. -/
def yesNo (x : Int) : Bool := within 0 1 x

/-- If-then between two tests. -/
def needs (a b : Bool) : Bool := !a || b

/-! ### The entries -/

/-- HOLDER (R43). -/
def holderChecks (t : Tables) (h : HolderId) : List Check1 :=
  let e : HolderEntry := t.holder[h]
  [ (1, yesNo e.configured && needs (h == 0) (allHolders.any t.holderOn)),
    (2, within 0 1 e.role && needs (t.isRelief h) (!allHolders.any fun g => decide (g < h) && t.isRelief g)),
    (3, within 0 2 e.source),
    (4, within 5 600 e.dwell) ]

/-- The holder and the lift, from 0, of a LIFT entry. -/
def liftHolder (i : Fin 16) : HolderId := ⟨i.val / 4, by omega⟩
def liftPlace (i : Fin 16) : Fin 4 := ⟨i.val % 4, by omega⟩

/-- The entry of the lift inside a lift, if any. -/
def innerLift (t : Tables) (i : Fin 16) : Option LiftEntry :=
  match fromNumber 16 i.val with
  | some j => if i.val % 4 = 0 then none else some t.lift[j]
  | none => none

/-- The travels of the present lifts of a holder as far as one of them. -/
def travelTo (t : Tables) (i : Fin 16) : Int :=
  ((allInner i).map fun j => if isYes t.lift[liftIndex (liftHolder i) j].present then
      t.lift[liftIndex (liftHolder i) j].travel else 0).sum
where
  /-- The lifts of the holder up to and including this one. -/
  allInner (i : Fin 16) : List (Fin 4) := ([0, 1, 2, 3] : List (Fin 4)).filter fun j => decide (j ≤ liftPlace i)

/-- LIFT (R44). -/
def liftChecks (t : Tables) (i : Fin 16) : List Check1 :=
  let e : LiftEntry := t.lift[i]
  let on := t.holderOn (liftHolder i)
  let counted := on && isYes e.present
  [ (1, yesNo e.present &&
      match innerLift t i with
      | none => needs on (isYes e.present)
      | some inner => needs counted (isYes inner.present)),
    (2, within 1000 600000 e.area),
    (3, within 500 15000 e.travel && needs counted (decide (travelTo t i ≤ 40000))),
    (4, within 100 5000 e.pressure &&
      match innerLift t i with
      | none => true
      | some inner => needs counted (decide (inner.pressure < e.pressure))) ]

/-- LIMIT (R45). -/
def limitChecks (t : Tables) (h : HolderId) : List Check1 :=
  let e : LimitEntry := t.limit[h]
  let on := t.holderOn h
  [ (1, within 0 500 e.landing && needs on (decide (e.landing < t.lift[liftIndex h 0].travel))),
    (2, within 0 40000 e.bottom),
    (3, within 0 40000 e.low && needs on (decide (e.bottom < e.low))),
    (4, within 0 40000 e.high && needs on (decide (e.low < e.high))),
    (5, within 0 40000 e.top && needs on (decide (e.high < e.top ∧ e.top ≤ fullHeight (t.lifts h)))),
    (6, within 10 2000 e.hysteresis) ]

/-- CHANNEL (R11). -/
def channelChecks (t : Tables) (c : ChannelId) : List Check1 :=
  let e : ChannelEntry := t.channel[c]
  let carries : Bool :=
    match fromIndex 4 c.val with
    | some h => t.holderOn h
    | none => false
  [ (1, within (-100000) 200000 e.zero),
    (2, within 1 200000 e.span && decide (e.zero + e.span ≤ 300000)),
    (3, within 0 4 e.shift),
    (4, within 1 600 e.staleLimit),
    (5, within 0 10922 e.openThreshold),
    (6, within 54614 65535 e.shortThreshold),
    (7, yesNo e.enabled && needs carries (isYes e.enabled)) ]

/-- Whether two entries name the same use, unit and lift (R21). -/
def sameUse (a b : ContactEntry) : Bool := decide (a.watch = b.watch ∧ a.unit = b.unit ∧ a.lift = b.lift)

/-- Whether a lower-indexed point has the same use, unit and lift (R21). -/
def useTaken (t : Tables) (k : PointId) : Bool :=
  allPoints.any fun j => decide (j < k) && sameUse t.contact[j] t.contact[k]

/-- The holder that a contact entry's unit names or that owns the valve it names (R21). -/
def unitHolder (e : ContactEntry) : Option HolderId :=
  if e.watch = 1 ∨ e.watch = 2 then (fieldIndex 8 e.unit).map ownerOf else fieldIndex 4 e.unit

/-- CONTACT (R21). -/
def contactChecks (t : Tables) (k : PointId) : List Check1 :=
  let e : ContactEntry := t.contact[k]
  let plain : Bool := decide (e.watch = 0 ∨ e.watch = 6)
  let holderOk : Bool :=
    match unitHolder e with
    | some h => t.holderOn h
    | none => false
  let lifts : Nat :=
    match unitHolder e with
    | some h => (t.lifts h).length
    | none => 0
  [ (1, within 0 6 e.watch && (decide (e.watch = 0) || !useTaken t k)),
    (2, if plain then decide (e.unit = 0) else holderOk),
    (3, if e.watch = 3 then within 2 lifts e.lift else decide (e.lift = 0)),
    (4, within 0 1 e.polarity) ]

/-- VALVE (R69); the one check against live records asks that a valve taken out of use be CLOSED. -/
def valveChecks (s : State) (v : ValveId) : List Check1 :=
  let t := s.staged
  let e : ValveEntry := t.valve[v]
  let on := t.valveOn v
  [ (1, yesNo e.configured && needs on (t.holderOn (ownerOf v)) &&
      needs on (t.assigned (.valveOpen v) && t.assigned (.valveShut v)) && needs (t.holderOn (ownerOf v)) on &&
      needs (s.tables.valveOn v && !on) (s.valves[v].state == .closed)),
    (2, within 10 900 e.timeout),
    (3, within 5 899 e.slow && decide (e.slow < e.timeout)) ]

/-- METER (R114). -/
def meterChecks (t : Tables) (p : PulseId) : List Check1 :=
  let e : MeterEntry := t.meter[p]
  [(1, yesNo e.enabled), (2, within 1000 1000000 e.pulseVolume)]

/-- STATION (R153). -/
def stationChecks (t : Tables) (n : StationId) : List Check1 :=
  let e : StationEntry := t.station[n]
  [(1, yesNo e.configured), (2, within 1 4 e.district), (3, yesNo e.acceptOld), (4, within 30 3600 e.staleLimit)]

/-- Whether a district's station is 0 or configured with this district (R136). -/
def stationFits (t : Tables) (d : DistrictId) : Bool :=
  match t.stationOf d with
  | none => true
  | some n => t.stationOn n && decide (t.station[n].district = (number d : Int))

/-- DISTRICT: the ranges, then for a configured entry the checks between fields (R136). -/
def districtChecks (t : Tables) (d : DistrictId) : List Check1 :=
  let e : DistrictEntry := t.district[d]
  let on := t.districtOn d
  [ (1, yesNo e.configured), (2, within 0 8 e.station), (3, within 0 5000 e.minOut), (4, within 0 5000 e.maxOut),
    (5, within 0 5000 e.minPoint), (6, within 0 5000 e.maxPoint), (7, within (-100) 300 e.elevation),
    (8, within 0 1200 e.gain), (9, within 0 1000 e.loadGain), (10, within 1 100 e.trimStep),
    (11, within 0 500 e.trimBand), (12, within 0 1000 e.trimLimit), (13, within 1 200 e.slew),
    (6, needs on (decide (e.minPoint < e.maxPoint))),
    (3, needs on (decide (e.minOut ≤ capOf e))),
    (2, needs on (stationFits t d)),
    (2, needs (on && decide (e.station ≠ 0))
      (!allDistricts.any fun g => decide (g < d) && t.districtOn g && decide (t.district[g].station = e.station))) ]

/-- PROFILE (R136). -/
def profileChecks (t : Tables) (i : Fin 192) : List Check1 := [(1, within 0 5000 t.profile[i])]

/-- ACCOUNT (R170). -/
def accountChecks (e : AccountEntry) : List Check1 :=
  [ (1, within 0 23 e.gasDayStart), (2, within 1 1000 e.advisory),
    (3, within 1 1000 e.alarm && decide (e.advisory ≤ e.alarm)), (4, within 0 100000000 e.floor) ]

/-- YARD (R96, R136). -/
def yardChecks (e : YardEntry) : List Check1 :=
  [ (1, within 0 500 e.tolerance), (2, within 0 120 e.gapTime), (3, within 0 1000 e.margin),
    (4, within 0 3000 e.boosterRise), (5, within 5 120 e.startTimeout), (6, within 0 255 e.runOnCode),
    (7, within 0 500 e.demandHysteresis) ]

/-! ### The judgment of a commit (R190) -/

/-- The field of the first check that fails. -/
def firstFailing (l : List Check1) : Option Nat := (l.find? fun c => !c.2).map Prod.fst

/-- The first failure of a table's entries. -/
def tableFault {n : Nat} (no : Nat) (entries : List (Fin n)) (f : Fin n → List Check1) : Option FieldIndex :=
  entries.findSome? fun i => (firstFailing (f i)).map fun field => ⟨no, i.val, field⟩

/-- The first failure of the staged copy. -/
def stagedFault (s : State) : Option FieldIndex :=
  let t := s.staged
  [ tableFault 1 allHolders (holderChecks t), tableFault 2 (List.finRange 16) (liftChecks t),
    tableFault 3 allHolders (limitChecks t), tableFault 4 allChannels (channelChecks t),
    tableFault 5 allPoints (contactChecks t), tableFault 6 allValves (valveChecks s),
    tableFault 7 allPulses (meterChecks t), tableFault 8 allStations (stationChecks t),
    tableFault 9 allDistricts (districtChecks t), tableFault 10 (List.finRange 192) (profileChecks t),
    tableFault 11 [(0 : Fin 1)] (fun _ => accountChecks t.account),
    tableFault 12 [(0 : Fin 1)] (fun _ => yardChecks t.yard) ].findSome? id

/-- Whether any configured valve is travelling. -/
def valvesTravel (s : State) : Bool := allValves.any fun v => s.tables.valveOn v && s.valves[v].state.travelling

/-- The busy block a commit is refused for, by its table (R190). -/
def busyTable (s : State) : Option Nat :=
  if valvesTravel s then some 6
  else if s.plan.record.isSome || s.plan.settle.isSome then some 12
  else if s.check.active then some 7
  else none

end Sys2Proof.Machine
end

