-- ==== Sys2Proof/Machine/Cascade.lean ====
section
/-! DEFINITION. Machine/Cascade.lean: conversion and contact events carried from the Channel Unit and the Contact
Scanner to the blocks that take them, and from the Holder Unit to the Valve Unit and the Yard Plan (00_scope.md, "Paths
between the blocks"). -/

namespace Sys2Proof.Machine

/-! ### Deliveries of the Holder Unit (R38) -/

/-- The limits of a holder that a judgment has set, as the protective demand they make (R66). -/
def demand (h : HolderId) (before after : HolderRec) (s : State) : State :=
  protectHolder h (!before.top && after.top) (!before.bottom && after.bottom) s

/-- New records of every holder put in place with their alarms, then their protective demands (an order of the model's:
log entry 57), then one event at the plan if it sees a change or the Valve Unit has anything to deliver. -/
def putHolders (after : Vector HolderRec 4) (s : State) : State :=
  let before := s.holders
  let s := inOrder allHolders (fun h s => putHolder h after[h] s) s
  let s := inOrder allHolders (fun h s => demand h before[h] after[h] s) s
  if allHolders.any (fun h => planSees before[h] after[h]) || !s.plan.inbox.isEmpty then planEvent s else s

/-- One judgment of the configured holders, each by its own function; the rest keep their records. -/
def judgeHolders (f : HolderId → HolderRec → HolderRec) (s : State) : State :=
  putHolders (Vector.ofFn fun h => if s.tables.holderOn h then f h s.holders[h] else s.holders[h]) s

/-! ### Conversion events (R2) -/

/-- What a conversion of a channel makes of a holder's record (R26, R30, R39, R41). -/
def holderAtConversion (s : State) (c : ChannelId) (h : HolderId) (r : HolderRec) : HolderRec :=
  if c = heightChannel h then heightJudged s h r
  else if c = pressureChannel h then pressureJudged s h r
  else if c = temperatureChannel h ∨ c = barometer then recompute s h r
  else r

/-- A conversion with its events; before the evaluation of limits the Holder Unit judges nothing (R47). -/
def conversionEvent (c : ChannelId) (raw : Nat) (s : State) : State :=
  let s := convertChannel c raw s
  if planAwake s then judgeHolders (holderAtConversion s c) s else s

/-! ### Contact events (R20) -/

/-- The contact event at the Valve Unit. -/
def valveContacts (ds : List Delivery) (s : State) : State :=
  let s := takeValvePairs ds s
  if planAwake s then planNotes (judgeValves ds s) else s

/-- A holder's record with a contact event's pairs taken in. -/
def takeHolderPairs (ds : List Delivery) (h : HolderId) (r : HolderRec) : HolderRec :=
  ds.foldl (fun r d => r.takePair h d) r

/-- A holder's record after a contact event: its cup uses, then its crown uses (R29, R36, R37). -/
def holderAtContacts (s : State) (ds : List Delivery) (h : HolderId) (r : HolderRec) : HolderRec :=
  let r := if ds.any (fun d => d.isCup h) then cupsJudged s h r else r
  crownJudged s h (ds.any fun d => d.use == .crownTop h) (ds.any fun d => d.use == .crownBottom h) r

/-- The contact event at the Holder Unit. -/
def holderContacts (ds : List Delivery) (s : State) : State :=
  let s := { s with holders := Vector.ofFn fun h =>
    if s.tables.holderOn h then takeHolderPairs ds h s.holders[h] else s.holders[h] }
  if planAwake s then judgeHolders (holderAtContacts s ds) s else s

/-- The pair a list of deliveries brings the booster, if any. -/
def boosterPair (ds : List Delivery) : Option Pair :=
  (ds.find? fun d => d.use == .boosterRun).map Delivery.left

/-- The contact event at the Pressure Unit. -/
def boosterContacts (ds : List Delivery) (s : State) : State :=
  match boosterPair ds with
  | some p => takeBoosterContact p s
  | none => s

/-- The contact events of one cycle end, in the order in which they fell. -/
def contactEvents (order : BlockOrder) (ds : List Delivery) (s : State) : State :=
  match order with
  | .valveHolderPressure => boosterContacts ds (holderContacts ds (valveContacts ds s))
  | .valvePressureHolder => holderContacts ds (boosterContacts ds (valveContacts ds s))
  | .holderValvePressure => boosterContacts ds (valveContacts ds (holderContacts ds s))
  | .holderPressureValve => valveContacts ds (boosterContacts ds (holderContacts ds s))
  | .pressureValveHolder => holderContacts ds (valveContacts ds (boosterContacts ds s))
  | .pressureHolderValve => valveContacts ds (holderContacts ds (boosterContacts ds s))

/-- A cycle end with its events (R15). -/
def scanEvent (made : BitVec 64) (quiet : BitVec 4) (order : BlockOrder) (s : State) : State :=
  let (s, ds) := scanCycle made quiet s
  contactEvents order ds s

/-! ### The other events of the Holder and Valve Units -/

/-- The expiry of a holder's disagreement timer (R33). -/
def dwellEvent (h : HolderId) (s : State) : State :=
  judgeHolders (fun g r => if g = h then dwellExpired r else r) s

/-- The expiry of a travel timer (R54). -/
def travelEvent (v : ValveId) (s : State) : State := planNotes (travelExpired v s)

/-- The expiry of the gap timer (R86). -/
def gapEvent (s : State) : State :=
  match s.plan.record with
  | some c => if c.gap.isSome then planEventWith true true s else s
  | none => s

end Sys2Proof.Machine
end

