-- ==== Sys2Proof/Machine/StartUp.lean ====
section
/-! DEFINITION. Machine/StartUp.lean: retained memory, the clock's advance and the start-up sequence
(11_retained_memory_and_start_up.md). -/

namespace Sys2Proof.Machine

/-! ### The release of the drives (R184) -/

/-- Everything that is not retained, at the start-up values of its chapter; `supply` says whether the part is powered
(R13, R23, R47, R71, R98, R116, R138, R155, R179, R183, R189). -/
def startValues (supply strap : Bool) (r : Retained) (pending : List Instr) : State :=
  let t := r.tables
  { supply := supply
    part := .startUp
    retained := r
    staged := t
    startUp := StartUp.start
    channels := Vector.ofFn fun c => Channel.startUp (t.channelOn c)
    points := Vector.replicate 64 Point.startUp
    returns := Vector.replicate 4 ReturnLine.startUp
    holders := Vector.ofFn fun h => HolderRec.startUp (capacityOf (t.lifts h))
    controls := Vector.replicate 4 HolderControl.startUp
    valves := Vector.ofFn fun v => Valve.startUp (t.valveOn v)
    plan := Plan.startUp
    meters := Vector.replicate 6 Meter.startUp
    check := Check.startUp
    districts := Vector.ofFn fun d => districtStartUp t d
    press := Pressure.startUp
    booster := Booster.startUp
    stations := Vector.replicate 8 Station.startUp
    line := Line.startUp
    alarms := AlarmList.startUp
    link := Link.startUp strap
    pending := pending }

/-- The start-up hold of a RUNNING Account Unit (R169). -/
def Retained.held (r : Retained) : Retained :=
  Retained.written { r with account := { r.account with hold := r.account.running } }

/-- The release of the drives over retained memory as it stands: MAKE-HOLD, asserted there, marks the open periods of a
RUNNING unit (R158, R184), and CLOCK-UNSET rises where the clock-set mark is clear (R182). -/
def releaseDrives (strap : Bool) (r : Retained) (pending : List Instr) : State :=
  let s := markPeriods Flags.ofMakeHold (startValues true strap r.held pending)
  if r.clockSet then s else raiseAlarm .clockUnset 0 s

/-- A start-up: retained memory kept where its check word is good, and written afresh otherwise (R181). -/
def startPart (kept strap : Bool) (s : State) : State :=
  releaseDrives strap (if kept && s.retained.checkGood then s.retained else Retained.coldStart) s.pending

/-- The main supply returns (R181). With the supply present there is no power-on. -/
def powerUp (kept strap : Bool) (s : State) : State := if s.supply then s else startPart kept strap s

/-- The main supply fails: what is not retained is gone (R180, R183). -/
def loseSupply (s : State) : State := if s.supply then startValues false s.link.fast s.retained s.pending else s

/-! ### The derivation (R184) -/

/-- Every configured holder judged at once, with its protective demands on the derived valves after every
alarm (R47, R66; log entry 57). -/
def evaluateLimits (s : State) : State :=
  let before := s.holders
  let after := Vector.ofFn fun h => if s.tables.holderOn h then startUpJudged s h s.holders[h] else s.holders[h]
  let s := inOrder allHolders (fun h s => putHolder h after[h] s) s
  inOrder allHolders (fun h s => demand h before[h] after[h] s) s

/-- What is done when the first full conversion and the second scan cycle have both ended. -/
def deriveYard (s : State) : State :=
  let s := evaluateLimits (deriveValves s)
  let s := { s with startUp := { s.startUp with derived := true } }
  sendCall (planEvent (deriveRoles s))

/-- Whether the sequence has what it awaits. -/
def deliveriesIn (s : State) : Bool :=
  s.part == .startUp && !s.startUp.derived && s.startUp.converted.toList.all id && decide (2 ≤ s.startUp.scans)

/-- The derivation, where the event just taken was the second of the two awaited. -/
def deriveIfReady (s : State) : State := if deliveriesIn s then deriveYard s else s

/-- A conversion counted towards the first full conversion (R2). -/
def countConversion (c : ChannelId) (s : State) : State :=
  { s with startUp := { s.startUp with converted := s.startUp.converted.set c true,
                                       conversionTimer := some 0 } }

/-- A cycle end counted towards the second scan cycle (R23). -/
def countScan (s : State) : State :=
  { s with startUp := { s.startUp with scans := min 2 (s.startUp.scans + 1), cycleTimer := some 0 } }

/-- A conversion of one channel. -/
def convert (c : ChannelId) (raw : Nat) (s : State) : State :=
  if s.supply then deriveIfReady (countConversion c (conversionEvent c raw s)) else s

/-- The end of a scan cycle. -/
def scan (made : BitVec 64) (quiet : BitVec 4) (order : BlockOrder) (s : State) : State :=
  if s.supply then deriveIfReady (countScan (scanEvent made quiet order s)) else s

/-! ### The end of the roll call (R185) -/

/-- The part enters RUN, where the tick timer starts (R119). -/
def enterRun (s : State) : State :=
  { s with part := .run, press := { s.press with tickTimer := some 0 } }

/-- The end of the start-up sequence. -/
def finishStartUp (s : State) : State :=
  let s := beginSetpoints (powerGapClose s)
  if s.retained.configured then planEvent (enterRun s) else { s with part := .unconfigured }

/-- The close of the answer slot whose turn it is, which at the eighth ends the roll call and, in START-UP, the
sequence. -/
def closeSlot (s : State) : State :=
  match slotClosed s with
  | (s, ended) => if ended && s.part == .startUp then finishStartUp s else s

/-! ### The clock (R182) -/

/-- The clock one second on. -/
def advanceClock (s : State) : State := s.setRetained { s.retained with clock := s.clock.next }

/-- A second of the clock: minute windows, then the accounts. While the supply is off it is no event at any block. -/
def clockSecond (s : State) : State :=
  let s := advanceClock s
  if s.supply then
    accountSecond (if s.clock.second % 60 = 0 then closeWindows s.tables true s else s)
  else s

end Sys2Proof.Machine
end

