-- ==== Sys2Proof/Machine/Commit.lean ====
section
/-! DEFINITION. Machine/Commit.lean: a commit that has passed its checks, carried out in one event (R191). -/

namespace Sys2Proof.Machine

/-! ### The Holder Unit (R46) -/

/-- A holder's contact pairs as they stand after a commit. -/
def HolderRec.withPairs (s : State) (h : HolderId) (r : HolderRec) : HolderRec :=
  { r with cups := Vector.ofFn fun i => usePair s (.cup h i), crownTop := usePair s (.crownTop h),
           crownBottom := usePair s (.crownBottom h) }

/-- A holder record brought to the new tables. -/
def recommittedHolder (was : Tables) (ds : List Delivery) (s : State) (h : HolderId) : HolderRec :=
  let r : HolderRec := s.holders[h]
  let fresh := HolderRec.startUp (capacityOf (s.tables.lifts h))
  match was.holderOn h, s.tables.holderOn h with
  | true, true => commitJudged s h (takeHolderPairs ds h r)
  | false, true => commitJudged s h (fresh.withPairs s h)
  | _, false => fresh

/-- Every holder brought to the new tables. Its alarms move; a limit that sets gives its protective close to a valve
that was configured before, and a valve configured now gets its own when it is derived (R70). The alarms of
every holder come before the closes (log entry 57). -/
def commitHolders (was : Tables) (ds : List Delivery) (s : State) : State :=
  let before := s.holders
  let after := Vector.ofFn (recommittedHolder was ds s)
  let s := inOrder allHolders (fun h s => putHolder h after[h] s) s
  inOrder allHolders (fun h s =>
    if was.holderOn h && s.tables.holderOn h then demand h before[h] after[h] s else s) s

/-! ### The whole commit (R191) -/

/-- The staged copy put into use, with the configured mark; a part in UNCONFIGURED enters RUN (R191, step 3). -/
def activate (s : State) : State :=
  let s := s.setRetained { s.retained with tables := s.staged, configured := true }
  if s.part = .unconfigured then enterRun s else s

/-- The plan's part: roles derived, then the judgments and the decision, the Pressure Unit's evaluation being left to
the end of its own part (R97, R137). -/
def commitPlan (s : State) : State := planEventWith false false (deriveRoles s)

/-- The eight steps of R191. -/
def commitTables (s : State) : State :=
  let was := s.tables
  let s := activate (commitClose s.staged.account (closeWindows was false s))
  let (s, ds) := commitContacts was (commitChannels was s)
  let s := commitValves was ds (commitHolders was ds s)
  let s := commitStations was (commitMeters was s)
  commitOpen (commitPressure was (boosterPair ds) (commitPlan s))

end Sys2Proof.Machine
end

