-- ==== Sys2Proof/Machine/Requests.lean ====
section
/-! DEFINITION. Machine/Requests.lean: the requests of the host link, each judged by the rule that specifies it: what it
does to the part and the reply it is given. The tests common to all requests (R188) stand at the end. -/

namespace Sys2Proof.Machine

/-- A request's own judgment. -/
abbrev Judgment := State → State × Reply

/-- DONE with an empty body. -/
def done : Reply := .accepted []

/-- A refusal for a fault in one of the request's own fields, counted from 1. -/
def badField (field : Nat) : Reply := .rejected .badField (some ⟨0, 0, field⟩)

/-- A refusal that carries no field index. -/
def refusal (r : Reason) : Reply := .rejected r none

/-- A request that only reads. -/
def reading (body : State → List Byte) : Judgment := fun s => (s, .accepted (body s))

/-- A request refused without effect. -/
def refuse (r : Reply) : Judgment := fun s => (s, r)

/-- A request taken, with an empty body. -/
def taken (f : State → State) : Judgment := fun s => (f s, done)

/-- A request that names one thing of a bank by its number, refused at a field otherwise. -/
def naming {n : Nat} (field : Nat) (i : Option (Fin n)) (f : Fin n → Judgment) : Judgment :=
  match i with
  | some i => f i
  | none => refuse (badField field)

/-! ### Reading requests -/

/-- YARD-STATUS (R197). -/
def judgeYardStatus : Judgment := reading yardBody

/-- HOLDER-READ (R49). -/
def judgeHolderRead (h : Nat) : Judgment := naming 1 (fromNumber 4 h) fun h => reading fun s => holderBody s h

/-- CHANNEL-READ (R14). -/
def judgeChannelRead (c : Nat) : Judgment := naming 1 (fromIndex 21 c) fun c => reading fun s => channelBody s c

/-- CONTACT-READ (R24). -/
def judgeContactRead : Judgment := reading contactBody

/-- METER-READ (R117). -/
def judgeMeterRead (p : Nat) : Judgment := naming 1 (fromIndex 6 p) fun p => reading fun s => meterBody s p

/-- DISTRICT-READ (R139). -/
def judgeDistrictRead (d : Nat) : Judgment := naming 1 (fromNumber 4 d) fun d => reading fun s => districtBody s d

/-- STATION-READ (R152). -/
def judgeStationRead (n : Nat) : Judgment := naming 1 (fromNumber 8 n) fun n => reading fun s => stationBody s n

/-- LINE-RESULT (R152). -/
def judgeLineResult : Judgment := reading resultBody

/-- ALARM-READ (R178). -/
def judgeAlarmRead (start : Nat) : Judgment :=
  if 1 ≤ start ∧ start ≤ 32 then reading fun s => alarmBody s start else refuse (badField 1)

/-- ACCOUNT-READ (R166). -/
def judgeAccountRead (sequence : Option Nat) : Judgment := fun s =>
  match sequence with
  | none => (s, .accepted (accountBody s s.account.queue.head?))
  | some q =>
    match s.account.queue.find? fun r => r.sequence == q with
    | some r => (s, .accepted (accountBody s (some r)))
    | none => (s, badField 1)

/-- CLOCK-READ (R192). -/
def judgeClockRead : Judgment := reading clockBody

/-- The first of the table, first index and count fields that is out of bounds, its position counting from `at1`
(R189). -/
def tableFieldFault (at1 no first count : Nat) : Option Nat :=
  let size := tableSize no
  if size.1 = 0 then some at1
  else if size.1 ≤ first then some (at1 + 1)
  else if count = 0 ∨ size.1 < first + count then some (at1 + 2)
  else none

/-- TABLE-READ (R189). -/
def judgeTableRead (copy no first count : Nat) : Judgment := fun s =>
  if 1 < copy then (s, badField 1)
  else
    match tableFieldFault 2 no first count with
    | some f => (s, badField f)
    | none =>
      if Config.answerBody < 4 * (tableSize no).2 * count then (s, badField 4)
      else (s, .accepted (tableBody (if copy = 0 then s.tables else s.staged) no first count))

/-! ### Clock and tables -/

/-- CLOCK-SET (R192). -/
def judgeClockSet (day second : Nat) : Judgment :=
  if 65535 < day then refuse (badField 1)
  else if 86399 < second then refuse (badField 2)
  else taken (setClock ⟨day, second⟩)

/-- TABLE-WRITE (R189). -/
def judgeTableWrite (no first : Nat) (entries : List (List Int)) : Judgment :=
  match tableFieldFault 1 no first entries.length with
  | some f => refuse (badField f)
  | none => taken fun s => { s with staged := s.staged.writeAll no first entries }

/-- Whether the entries of a TABLE-WRITE have the length their table's entries have; for a table that does not exist
there is no length to fit (log entry 11). -/
def entriesFit (no : Nat) (entries : List (List Int)) : Bool :=
  decide ((tableSize no).1 = 0) || entries.all fun e => e.length == (tableSize no).2

/-- TABLE-COMMIT (R190, R191). -/
def judgeTableCommit : Judgment := fun s =>
  match busyTable s with
  | some no => (s, .rejected .busy (some ⟨no, 0, 0⟩))
  | none =>
    match stagedFault s with
    | some f => (s, .rejected .badField (some f))
    | none => (commitTables s, done)

/-- TABLE-DISCARD (R189). -/
def judgeTableDiscard : Judgment := taken fun s => { s with staged := s.tables }

/-! ### Orders to the yard -/

/-- The first fault of one list of PLAN-SET, whose count stands at field `at1` (R75): a wrong length, or an entry that
is out of range, that repeats an earlier one or that is banned from the list. -/
def orderFault (banned : HolderId → Bool) (at1 : Nat) (l : List Nat) : Option Nat :=
  if l.length < 1 ∨ 4 < l.length then some at1
  else
    ((List.range l.length).find? fun i =>
      match fromNumber 4 (l.getD i 0) with
      | none => true
      | some h => (l.take i).contains (number h) || banned h).map (at1 + 1 + ·)

/-- PLAN-SET (R75). Of several faults the first of the FILL list, and then of the SEND list, is named (log entry 38).
Only a configured holder is a RELIEF holder here (log entry 37). -/
def judgePlanSet (fill send : List Nat) : Judgment := fun s =>
  match orderFault s.tables.isRelief 1 fill, orderFault (fun _ => false) (fill.length + 2) send with
  | some f, _ => (s, badField f)
  | none, some f => (s, badField f)
  | none, none => (setOrders (fill.filterMap (fromNumber 4)) (send.filterMap (fromNumber 4)) s, done)

/-- HOLDER-HOLD (R61). -/
def judgeHolderHold (h : Nat) : Judgment := naming 1 (fromNumber 4 h) fun h s =>
  if !s.tables.holderOn h then (s, refusal .wrongState)
  else if s.controls[h].control = .manual then (s, done)
  else (planEvent (s.setControl h { s.controls[h] with control := .manual }), done)

/-- HOLDER-FREE (R62). -/
def judgeHolderFree (h : Nat) : Judgment := naming 1 (fromNumber 4 h) fun h s =>
  if !s.tables.holderOn h then (s, refusal .wrongState)
  else if s.controls[h].control = .auto then (s, done)
  else if !s.controls[h].queue.isEmpty || (stateOf s (inletOf h)).travelling ||
      (stateOf s (outletOf h)).travelling then (s, refusal .busy)
  else (planEvent (s.setControl h { s.controls[h] with control := .auto }), done)

/-- The hand order a field names (R193: its position in R63's list, counting from 0). -/
def handOrder : Nat → Option HandOrder
  | 0 => some .openInlet
  | 1 => some .closeInlet
  | 2 => some .openOutlet
  | 3 => some .closeOutlet
  | _ => none

/-- A taken hand order (R63): appended, and run at once where it is the head. One that ends there with result FAULT is
answered as one completed at once (log entry 36); one that the plan reverses in the same event is answered as it stood
before the plan's event (log entry 49). -/
def takeHandOrder (h : HolderId) (o : HandOrder) : Judgment := fun s =>
  let waiting := s.controls[h].queue.length
  let appended := setQueue h (s.controls[h].queue ++ [⟨o, false⟩]) s
  if 0 < waiting then (appended, .accepted (num (waiting + 1)))
  else
    let s' := runQueue (Config.orderCapacity + 1) h appended
    if !s'.controls[h].queue.isEmpty then (planNotes s', .accepted (num 1))
    else if (interlockOf s h o).isSome then (planNotes s', refusal .interlock)
    else (planNotes s', .accepted (num 0))

/-- HOLDER-ORDER (R63). -/
def judgeHolderOrder (h o : Nat) : Judgment := naming 1 (fromNumber 4 h) fun h s =>
  match handOrder o with
  | none => (s, badField 2)
  | some o =>
    if !s.tables.holderOn h || s.controls[h].control == .auto then (s, refusal .wrongState)
    else if Config.orderCapacity ≤ s.controls[h].queue.length then (s, refusal .full)
    else takeHandOrder h o s

/-- VALVE-CONFIRM (R59). -/
def judgeValveConfirm (v : Nat) : Judgment := naming 1 (fromNumber 8 v) fun v s =>
  if !s.tables.valveOn v || s.valves[v].state != .fault then (s, refusal .wrongState)
  else (planNotes (confirmValve v s), done)

/-- CHECK-START (R110). -/
def judgeCheckStart (target pulses tolerance : Nat) : Judgment := naming 1 (fromIndex 5 target) fun target s =>
  if pulses < 10 ∨ 10000 < pulses then (s, badField 2)
  else if tolerance < 1 ∨ 500 < tolerance then (s, badField 3)
  else if s.check.active then (s, refusal .busy)
  else if !s.tables.meterOn target.castSucc || !s.tables.meterOn 5 then (s, refusal .wrongState)
  else (armCheck target pulses tolerance s, done)

/-- CHECK-STOP (R113). -/
def judgeCheckStop : Judgment := taken stopCheck

/-- BOOSTER-RESET (R135). -/
def judgeBoosterReset : Judgment := taken resetBooster

/-! ### The outstation line -/

/-- LINE-HOLD (R147). -/
def judgeLineHold : Judgment := fun s =>
  if s.line.state = .calling then (s, refusal .busy) else (holdLine s, done)

/-- LINE-FREE (R150). -/
def judgeLineFree : Judgment := taken freeLine

/-- The function an ask's field names (R194). -/
def askFunction : Nat → Option AskFunction
  | 1 => some .readPoint
  | 2 => some .readStatus
  | 3 => some .echo
  | _ => none

/-- LINE-ASK (R148). -/
def judgeLineAsk (n f a : Nat) : Judgment := naming 1 (fromNumber 8 n) fun n s =>
  match askFunction f with
  | none => (s, badField 2)
  | some f =>
    if 255 < a then (s, badField 3)
    else
      match s.line.state with
      | .held => if s.line.quiet.isSome then (s, refusal .busy) else (manualAsk n f (BitVec.ofNat 8 a) s, done)
      | .manualBusy => (s, refusal .busy)
      | _ => (s, refusal .notHeld)

/-- LINE-KILL (R149). -/
def judgeLineKill : Judgment := taken killAsk

/-- LINE-RESTART (R151). -/
def judgeLineRestart : Judgment := fun s =>
  if s.line.state = .calling then (s, refusal .busy) else (restartLine s, done)

/-! ### Alarms, accounts, restart -/

/-- ALARM-ACK (R175). The faults are looked for in the order of the rule's sentence: type and kind outside the
catalogue, the index, and a kind that is not the type's (log entry 12). -/
def judgeAlarmAck (type index kind : Nat) : Judgment := fun s =>
  match sourceRange type, kindOfCode kind with
  | none, _ => (s, badField 1)
  | some _, none => (s, badField 3)
  | some (a, b), some k =>
    if index < a ∨ b < index then (s, badField 2)
    else if k.sourceType ≠ type then (s, badField 3)
    else if (s.alarms.lookup k index).isNone then (s, refusal .wrongState)
    else (s.setAlarms (s.alarms.acknowledge k index).judged, done)

/-- ALARM-ACK-ALL (R175). -/
def judgeAlarmAckAll : Judgment := fun s =>
  let count (x : EntryState) : Nat := (s.alarms.entries.filter fun e => e.state == x).length
  (s.setAlarms s.alarms.acknowledgeAll.judged, .accepted (num (count .raised) ++ num (count .ended)))

/-- ACCOUNT-FREE (R166). -/
def judgeAccountFree (sequence : Nat) : Judgment := fun s =>
  if s.account.queue.any fun r => r.sequence == sequence then
    let s := freeRecords sequence s
    (s, .accepted (num s.account.queue.length))
  else (s, badField 1)

/-- RESTART (R186). -/
def judgeRestart : Judgment := fun s =>
  if valvesTravel s then (s, refusal .busy) else (s.setLink { s.link with restarting := true }, done)

/-! ### The tests common to all requests (R188) -/

/-- The codes from 21h are the acting requests. -/
def isActing (code : Byte) : Bool := decide (0x21 ≤ code.toNat)

/-- The acting requests the catalogue marks as taken in UNCONFIGURED. -/
def takenUnconfigured (code : Byte) : Bool :=
  [0x21, 0x22, 0x23, 0x24, 0x32, 0x33, 0x35].contains code.toNat

/-- A request of the catalogue judged in the order of R188, from its second test on; `fits` says whether its body's
length fits. The acknowledgements too are BUSY in START-UP (log entry 32). -/
def judgeRequest (code : Byte) (fits : Bool) (j : Judgment) : Judgment := fun s =>
  if !fits then (s, badField 0)
  else if isActing code && s.part == .startUp then (s, refusal .busy)
  else if isActing code && s.part == .unconfigured && !takenUnconfigured code then (s, refusal .unconfigured)
  else j s

end Sys2Proof.Machine
end

