-- ==== Sys2Proof/Machine/Link.lean ====
section
/-! DEFINITION. Machine/Link.lean: the Link Unit (12_host_link_and_messages.md): the receiver, the thirty-three requests
as it takes them, and the answer it sends. -/

namespace Sys2Proof.Machine

/-! ### Taking a request -/

/-- The answer formed in the event in which its block takes the request; the receiver closes until it has left
(R187, R188), the frame buffer emptied as the request is taken (log entry 65). -/
def respond (code tag : Byte) (j : Judgment) (s : State) : State :=
  let (s, reply) := j s
  s.setLink { s.link with receiver := .closed, buffer := [], gap := none, answer := some ⟨code, tag, reply⟩ }

/-- A well-formed frame's request, where the part is powered and its receiver is not CLOSED (R187). -/
def request (code tag : Byte) (fits : Bool) (j : Judgment) (s : State) : State :=
  if s.supply && s.link.receiver != .closed then respond code tag (judgeRequest code fits j) s else s

/-! ### The requests with their codes (R188) -/

def requestYardStatus (tag : Byte) : State → State := request 0x01 tag true judgeYardStatus
def requestHolderRead (tag : Byte) (h : Nat) : State → State := request 0x02 tag true (judgeHolderRead h)
def requestChannelRead (tag : Byte) (c : Nat) : State → State := request 0x03 tag true (judgeChannelRead c)
def requestContactRead (tag : Byte) : State → State := request 0x04 tag true judgeContactRead
def requestMeterRead (tag : Byte) (p : Nat) : State → State := request 0x05 tag true (judgeMeterRead p)
def requestDistrictRead (tag : Byte) (d : Nat) : State → State := request 0x06 tag true (judgeDistrictRead d)
def requestStationRead (tag : Byte) (n : Nat) : State → State := request 0x07 tag true (judgeStationRead n)
def requestLineResult (tag : Byte) : State → State := request 0x08 tag true judgeLineResult
def requestAlarmRead (tag : Byte) (start : Nat) : State → State := request 0x09 tag true (judgeAlarmRead start)
def requestAccountRead (tag : Byte) (q : Option Nat) : State → State := request 0x0A tag true (judgeAccountRead q)
def requestClockRead (tag : Byte) : State → State := request 0x0B tag true judgeClockRead
def requestTableRead (tag : Byte) (copy no first count : Nat) : State → State :=
  request 0x0C tag true (judgeTableRead copy no first count)
def requestClockSet (tag : Byte) (day second : Nat) : State → State := request 0x21 tag true (judgeClockSet day second)
def requestTableWrite (tag : Byte) (no first : Nat) (es : List (List Int)) : State → State :=
  request 0x22 tag (entriesFit no es) (judgeTableWrite no first es)
def requestTableCommit (tag : Byte) : State → State := request 0x23 tag true judgeTableCommit
def requestTableDiscard (tag : Byte) : State → State := request 0x24 tag true judgeTableDiscard
def requestPlanSet (tag : Byte) (fill send : List Nat) : State → State :=
  request 0x25 tag true (judgePlanSet fill send)
def requestHolderHold (tag : Byte) (h : Nat) : State → State := request 0x26 tag true (judgeHolderHold h)
def requestHolderFree (tag : Byte) (h : Nat) : State → State := request 0x27 tag true (judgeHolderFree h)
def requestHolderOrder (tag : Byte) (h o : Nat) : State → State := request 0x28 tag true (judgeHolderOrder h o)
def requestValveConfirm (tag : Byte) (v : Nat) : State → State := request 0x29 tag true (judgeValveConfirm v)
def requestCheckStart (tag : Byte) (t n p : Nat) : State → State := request 0x2A tag true (judgeCheckStart t n p)
def requestCheckStop (tag : Byte) : State → State := request 0x2B tag true judgeCheckStop
def requestBoosterReset (tag : Byte) : State → State := request 0x2C tag true judgeBoosterReset
def requestLineHold (tag : Byte) : State → State := request 0x2D tag true judgeLineHold
def requestLineFree (tag : Byte) : State → State := request 0x2E tag true judgeLineFree
def requestLineAsk (tag : Byte) (n f a : Nat) : State → State := request 0x2F tag true (judgeLineAsk n f a)
def requestLineKill (tag : Byte) : State → State := request 0x30 tag true judgeLineKill
def requestLineRestart (tag : Byte) : State → State := request 0x31 tag true judgeLineRestart
def requestAlarmAck (tag : Byte) (t i k : Nat) : State → State := request 0x32 tag true (judgeAlarmAck t i k)
def requestAlarmAckAll (tag : Byte) : State → State := request 0x33 tag true judgeAlarmAckAll
def requestAccountFree (tag : Byte) (q : Nat) : State → State := request 0x34 tag true (judgeAccountFree q)
def requestRestart (tag : Byte) : State → State := request 0x35 tag true judgeRestart

/-- A request read from a frame, taken as the command it spells; the commands that are no requests are never read. -/
def runRequest (i : Instr) (s : State) : State :=
  match i with
  | .yardStatus tag => requestYardStatus tag s
  | .holderRead tag h => requestHolderRead tag h s
  | .channelRead tag c => requestChannelRead tag c s
  | .contactRead tag => requestContactRead tag s
  | .meterRead tag c => requestMeterRead tag c s
  | .districtRead tag d => requestDistrictRead tag d s
  | .stationRead tag n => requestStationRead tag n s
  | .lineResult tag => requestLineResult tag s
  | .alarmRead tag p => requestAlarmRead tag p s
  | .accountRead tag q => requestAccountRead tag q s
  | .clockRead tag => requestClockRead tag s
  | .tableRead tag c t f n => requestTableRead tag c t f n s
  | .clockSet tag d x => requestClockSet tag d x s
  | .tableWrite tag t f es => requestTableWrite tag t f es s
  | .tableCommit tag => requestTableCommit tag s
  | .tableDiscard tag => requestTableDiscard tag s
  | .planSet tag f x => requestPlanSet tag f x s
  | .holderHold tag h => requestHolderHold tag h s
  | .holderFree tag h => requestHolderFree tag h s
  | .holderOrder tag h o => requestHolderOrder tag h o s
  | .valveConfirm tag v => requestValveConfirm tag v s
  | .checkStart tag t n p => requestCheckStart tag t n p s
  | .checkStop tag => requestCheckStop tag s
  | .boosterReset tag => requestBoosterReset tag s
  | .lineHold tag => requestLineHold tag s
  | .lineFree tag => requestLineFree tag s
  | .lineAsk tag n f a => requestLineAsk tag n f a s
  | .lineKill tag => requestLineKill tag s
  | .lineRestart tag => requestLineRestart tag s
  | .alarmAck tag t x k => requestAlarmAck tag t x k s
  | .alarmAckAll tag => requestAlarmAckAll tag s
  | .accountFree tag q => requestAccountFree tag q s
  | .restart tag => requestRestart tag s
  | .powerOn _ _ => s
  | .supplyLoss => s
  | .conversion _ _ => s
  | .scanCycleEnd _ _ _ => s
  | .stageDwellExpiry _ => s
  | .valveTravelTimeout _ => s
  | .gapTimerExpiry => s
  | .pulse _ => s
  | .intervalCounterStop _ => s
  | .checkTimeout => s
  | .clockAdvance => s
  | .tick => s
  | .boosterStartTimeout => s
  | .runOnExpiry => s
  | .outstationAskSent => s
  | .outstationByteReceived _ _ => s
  | .answerWindowClose => s
  | .readingAgeSecond => s
  | .pollTimerExpiry => s
  | .quietWindowEnd => s
  | .callBroadcastSent => s
  | .rollCallSlotClose => s
  | .hostByteReceived _ => s
  | .frameGapTimeout => s
  | .answerSent _ => s

/-! ### The receiver (R187) -/

/-- A frame abandoned or discarded: the buffer empties and the receiver hunts. -/
def abandonFrame (s : State) : State := s.setLink { s.link with receiver := .hunting, buffer := [], gap := none }

/-- The next byte of a frame kept. -/
def keepByte (buffer : List Byte) (s : State) : State :=
  s.setLink { s.link with receiver := .receiving, buffer := buffer, gap := some 0 }

/-- A complete frame with a good check, as the request it makes. -/
def takeFrame (code tag : Byte) (body : List Byte) (s : State) : State :=
  match readRequest code tag body with
  | .unknownCode => respond code tag (refuse (refusal .unknown)) s
  | .badLength => respond code tag (refuse (badField 0)) s
  | .request i => runRequest i s

/-- A complete frame: lead, count, code, tag, body and two bytes of CRC-16. -/
def completeFrame (frame : List Byte) (s : State) : State :=
  let covered := frame.take (frame.length - 2)
  if wordBytes (crc16 covered) = frame.drop (frame.length - 2) then
    match covered with
    | _ :: _ :: code :: tag :: body => takeFrame code tag body s
    | _ => abandonFrame s
  else abandonFrame s

/-- A byte while a frame is being received. -/
def frameByte (b : Byte) (s : State) : State :=
  let buffer := s.link.buffer ++ [b]
  match buffer with
  | _ :: count :: _ :: _ => if buffer.length = count.toNat + 4 then completeFrame buffer s else keepByte buffer s
  | [_, count] => if 2 ≤ count.toNat ∧ count.toNat ≤ 246 then keepByte buffer s else abandonFrame s
  | _ => keepByte buffer s

/-- A byte on the host link. -/
def hostByte (b : Byte) (s : State) : State :=
  if s.supply then
    match s.link.receiver with
    | .hunting => if b = 0xC3 then keepByte [b] s else s
    | .receiving => frameByte b s
    | .closed => s
  else s

/-- The 50 ms between two bytes of a frame run out. -/
def gapTimeout (s : State) : State := if s.link.receiver = .receiving then abandonFrame s else s

/-- The last byte of the answer leaves the line; after a RESTART the start-up begins (R186, R187). -/
def answerLeft (strap : Bool) (s : State) : State :=
  if s.link.answer.isSome then
    if s.link.restarting then startPart true strap s
    else s.setLink { s.link with receiver := .hunting, buffer := [], gap := none, answer := none }
  else s

/-! ### The answer's bytes (R193) -/

/-- A reason's number, from 1 in the order of R188. -/
def Reason.code : Reason → Byte
  | .unconfigured => 1
  | .badField => 2
  | .busy => 3
  | .full => 4
  | .notHeld => 5
  | .wrongState => 6
  | .interlock => 7
  | .unknown => 8

/-- The three bytes of a field index. -/
def FieldIndex.bytes (i : FieldIndex) : List Byte :=
  [BitVec.ofNat 8 i.table, BitVec.ofNat 8 i.entry, BitVec.ofNat 8 i.field]

/-- The outcome byte and the body. -/
def Reply.bytes : Reply → List Byte
  | .accepted body => 0 :: body
  | .rejected r i => 1 :: r.code :: ((i.map FieldIndex.bytes).getD [])

/-- The answer frame, lead to check. -/
def Answer.bytes (a : Answer) : List Byte :=
  let covered := 0xC3 :: BitVec.ofNat 8 (2 + a.reply.bytes.length) :: a.code :: a.tag :: a.reply.bytes
  covered ++ wordBytes (crc16 covered)

end Sys2Proof.Machine
end

