-- ==== Sys2Proof/Machine/Events.lean ====
section
/-! DEFINITION. Machine/Events.lean: the commands that are events of the yard, of the two lines and of the part's own
timers. An event that cannot fall in the present state (its timer is stopped, its valve is at rest, the part is without
supply) leaves the state as it is (log entry 1). -/

namespace Sys2Proof.Machine

/-- Every command answers a next state. -/
abbrev Outcome := Host.Outcome State Fault Refusal

/-- An event that the part takes only while its main supply is present. -/
def powered (f : State → State) (s : State) : State := if s.supply then f s else s

/-- POWER_ON (R181). -/
def execPowerOn (cellKept strap : Bool) (s : State) : Outcome := .next (powerUp cellKept strap s)

/-- SUPPLY_LOSS (R183). -/
def execSupplyLoss (s : State) : Outcome := .next (loseSupply s)

/-- CONVERSION (R2). -/
def execConversion (c : ChannelId) (raw : BitVec 16) (s : State) : Outcome := .next (convert c raw.toNat s)

/-- SCAN_CYCLE_END (R15). -/
def execScanCycleEnd (made : BitVec 64) (quiet : BitVec 4) (order : BlockOrder) (s : State) : Outcome :=
  .next (scan made quiet order s)

/-- STAGE_DWELL_EXPIRY (R33). -/
def execStageDwellExpiry (h : HolderId) (s : State) : Outcome := .next (powered (dwellEvent h) s)

/-- VALVE_TRAVEL_TIMEOUT (R54). -/
def execValveTravelTimeout (v : ValveId) (s : State) : Outcome := .next (powered (travelEvent v) s)

/-- GAP_TIMER_EXPIRY (R86). -/
def execGapTimerExpiry (s : State) : Outcome := .next (powered gapEvent s)

/-- PULSE (R101). -/
def execPulse (p : PulseId) (s : State) : Outcome := .next (powered (takePulse p) s)

/-- INTERVAL_COUNTER_STOP (R107). -/
def execIntervalCounterStop (p : PulseId) (s : State) : Outcome :=
  .next (powered (fun s => s.setMeter p s.meters[p].stopInterval) s)

/-- CHECK_TIMEOUT (R112). -/
def execCheckTimeout (s : State) : Outcome := .next (powered checkExpired s)

/-- CLOCK_ADVANCE (R182). -/
def execClockAdvance (s : State) : Outcome := .next (clockSecond s)

/-- TICK (R119). -/
def execTick (s : State) : Outcome := .next (powered pressureTick s)

/-- BOOSTER_START_TIMEOUT (R132). -/
def execBoosterStartTimeout (s : State) : Outcome := .next (powered startExpired s)

/-- RUN_ON_EXPIRY (R134). -/
def execRunOnExpiry (s : State) : Outcome := .next (powered runOnExpired s)

/-- OUTSTATION_ASK_SENT (R141). -/
def execOutstationAskSent (s : State) : Outcome := .next (powered askSent s)

/-- OUTSTATION_BYTE_RECEIVED (R141, R146). -/
def execOutstationByteReceived (b : Byte) (between : Bool) (s : State) : Outcome :=
  .next (powered (lineByte b between) s)

/-- ANSWER_WINDOW_CLOSE (R141). -/
def execAnswerWindowClose (s : State) : Outcome := .next (powered windowClosed s)

/-- READING_AGE_SECOND (R144). -/
def execReadingAgeSecond (s : State) : Outcome := .next (powered readingSecond s)

/-- POLL_TIMER_EXPIRY (R145). -/
def execPollTimerExpiry (s : State) : Outcome := .next (powered pollExpired s)

/-- QUIET_WINDOW_END (R149). -/
def execQuietWindowEnd (s : State) : Outcome := .next (powered quietEnded s)

/-- CALL_BROADCAST_SENT (R146). -/
def execCallBroadcastSent (s : State) : Outcome := .next (powered callSent s)

/-- ROLL_CALL_SLOT_CLOSE (R146, R185). -/
def execRollCallSlotClose (s : State) : Outcome := .next (powered closeSlot s)

/-- HOST_BYTE_RECEIVED (R187). -/
def execHostByteReceived (b : Byte) (s : State) : Outcome := .next (hostByte b s)

/-- FRAME_GAP_TIMEOUT (R187). -/
def execFrameGapTimeout (s : State) : Outcome := .next (powered gapTimeout s)

/-- ANSWER_SENT (R187). -/
def execAnswerSent (strap : Bool) (s : State) : Outcome := .next (powered (answerLeft strap) s)

end Sys2Proof.Machine
end

