-- ==== Sys2Proof/Machine/HostRequests.lean ====
section
/-! DEFINITION. Machine/HostRequests.lean: the commands that are requests of the host link. Each row is the event in
which the last byte of the request's well-formed frame arrives (log entry 1). -/

namespace Sys2Proof.Machine

/-- YARD_STATUS (R197). -/
def execYardStatus (tag : Byte) (s : State) : Outcome := .next (requestYardStatus tag s)

/-- HOLDER_READ (R49). -/
def execHolderRead (tag : Byte) (holder : Nat) (s : State) : Outcome := .next (requestHolderRead tag holder s)

/-- CHANNEL_READ (R14). -/
def execChannelRead (tag : Byte) (channel : Nat) (s : State) : Outcome := .next (requestChannelRead tag channel s)

/-- CONTACT_READ (R24). -/
def execContactRead (tag : Byte) (s : State) : Outcome := .next (requestContactRead tag s)

/-- METER_READ (R117). -/
def execMeterRead (tag : Byte) (channel : Nat) (s : State) : Outcome := .next (requestMeterRead tag channel s)

/-- DISTRICT_READ (R139). -/
def execDistrictRead (tag : Byte) (district : Nat) (s : State) : Outcome := .next (requestDistrictRead tag district s)

/-- STATION_READ (R152). -/
def execStationRead (tag : Byte) (station : Nat) (s : State) : Outcome := .next (requestStationRead tag station s)

/-- LINE_RESULT (R152). -/
def execLineResult (tag : Byte) (s : State) : Outcome := .next (requestLineResult tag s)

/-- ALARM_READ (R178). -/
def execAlarmRead (tag : Byte) (position : Nat) (s : State) : Outcome := .next (requestAlarmRead tag position s)

/-- ACCOUNT_READ (R166). -/
def execAccountRead (tag : Byte) (sequence : Option Nat) (s : State) : Outcome :=
  .next (requestAccountRead tag sequence s)

/-- CLOCK_READ (R192). -/
def execClockRead (tag : Byte) (s : State) : Outcome := .next (requestClockRead tag s)

/-- TABLE_READ (R189). -/
def execTableRead (tag : Byte) (copy : Nat) (table : Nat) (first : Nat) (count : Nat) (s : State) : Outcome :=
  .next (requestTableRead tag copy table first count s)

/-- CLOCK_SET (R192). -/
def execClockSet (tag : Byte) (day : Nat) (second : Nat) (s : State) : Outcome :=
  .next (requestClockSet tag day second s)

/-- TABLE_WRITE (R189). -/
def execTableWrite (tag : Byte) (table : Nat) (first : Nat) (entries : List (List Int)) (s : State) : Outcome :=
  .next (requestTableWrite tag table first entries s)

/-- TABLE_COMMIT (R190, R191). -/
def execTableCommit (tag : Byte) (s : State) : Outcome := .next (requestTableCommit tag s)

/-- TABLE_DISCARD (R189). -/
def execTableDiscard (tag : Byte) (s : State) : Outcome := .next (requestTableDiscard tag s)

/-- PLAN_SET (R75). -/
def execPlanSet (tag : Byte) (fill : List Nat) (send : List Nat) (s : State) : Outcome :=
  .next (requestPlanSet tag fill send s)

/-- HOLDER_HOLD (R61). -/
def execHolderHold (tag : Byte) (holder : Nat) (s : State) : Outcome := .next (requestHolderHold tag holder s)

/-- HOLDER_FREE (R62). -/
def execHolderFree (tag : Byte) (holder : Nat) (s : State) : Outcome := .next (requestHolderFree tag holder s)

/-- HOLDER_ORDER (R63). -/
def execHolderOrder (tag : Byte) (holder : Nat) (order : Nat) (s : State) : Outcome :=
  .next (requestHolderOrder tag holder order s)

/-- VALVE_CONFIRM (R59). -/
def execValveConfirm (tag : Byte) (valve : Nat) (s : State) : Outcome := .next (requestValveConfirm tag valve s)

/-- CHECK_START (R110). -/
def execCheckStart (tag : Byte) (target : Nat) (pulses : Nat) (tolerance : Nat) (s : State) : Outcome :=
  .next (requestCheckStart tag target pulses tolerance s)

/-- CHECK_STOP (R113). -/
def execCheckStop (tag : Byte) (s : State) : Outcome := .next (requestCheckStop tag s)

/-- BOOSTER_RESET (R135). -/
def execBoosterReset (tag : Byte) (s : State) : Outcome := .next (requestBoosterReset tag s)

/-- LINE_HOLD (R147). -/
def execLineHold (tag : Byte) (s : State) : Outcome := .next (requestLineHold tag s)

/-- LINE_FREE (R150). -/
def execLineFree (tag : Byte) (s : State) : Outcome := .next (requestLineFree tag s)

/-- LINE_ASK (R148). -/
def execLineAsk (tag : Byte) (station : Nat) (function : Nat) (argument : Nat) (s : State) : Outcome :=
  .next (requestLineAsk tag station function argument s)

/-- LINE_KILL (R149). -/
def execLineKill (tag : Byte) (s : State) : Outcome := .next (requestLineKill tag s)

/-- LINE_RESTART (R151). -/
def execLineRestart (tag : Byte) (s : State) : Outcome := .next (requestLineRestart tag s)

/-- ALARM_ACK (R175). -/
def execAlarmAck (tag : Byte) (sourceType : Nat) (index : Nat) (kind : Nat) (s : State) : Outcome :=
  .next (requestAlarmAck tag sourceType index kind s)

/-- ALARM_ACK_ALL (R175). -/
def execAlarmAckAll (tag : Byte) (s : State) : Outcome := .next (requestAlarmAckAll tag s)

/-- ACCOUNT_FREE (R166). -/
def execAccountFree (tag : Byte) (sequence : Nat) (s : State) : Outcome := .next (requestAccountFree tag sequence s)

/-- RESTART (R186). -/
def execRestart (tag : Byte) (s : State) : Outcome := .next (requestRestart tag s)

end Sys2Proof.Machine
end

