-- ==== Sys2Proof/Machine/Dispatch.lean ====
section
/-! DEFINITION. Machine/Dispatch.lean: one arm for each command, each one call of its meaning. -/

namespace Sys2Proof.Machine

/-- A command's effect on everything but the queue. -/
def exec (i : Instr) (s : State) : Host.Outcome State Fault Refusal :=
  match i with
  | .powerOn cellKept strap => Sys2Proof.Machine.execPowerOn cellKept strap s
  | .supplyLoss => Sys2Proof.Machine.execSupplyLoss s
  | .conversion c raw => Sys2Proof.Machine.execConversion c raw s
  | .scanCycleEnd made quiet order => Sys2Proof.Machine.execScanCycleEnd made quiet order s
  | .stageDwellExpiry h => Sys2Proof.Machine.execStageDwellExpiry h s
  | .valveTravelTimeout v => Sys2Proof.Machine.execValveTravelTimeout v s
  | .gapTimerExpiry => Sys2Proof.Machine.execGapTimerExpiry s
  | .pulse p => Sys2Proof.Machine.execPulse p s
  | .intervalCounterStop p => Sys2Proof.Machine.execIntervalCounterStop p s
  | .checkTimeout => Sys2Proof.Machine.execCheckTimeout s
  | .clockAdvance => Sys2Proof.Machine.execClockAdvance s
  | .tick => Sys2Proof.Machine.execTick s
  | .boosterStartTimeout => Sys2Proof.Machine.execBoosterStartTimeout s
  | .runOnExpiry => Sys2Proof.Machine.execRunOnExpiry s
  | .outstationAskSent => Sys2Proof.Machine.execOutstationAskSent s
  | .outstationByteReceived b between => Sys2Proof.Machine.execOutstationByteReceived b between s
  | .answerWindowClose => Sys2Proof.Machine.execAnswerWindowClose s
  | .readingAgeSecond => Sys2Proof.Machine.execReadingAgeSecond s
  | .pollTimerExpiry => Sys2Proof.Machine.execPollTimerExpiry s
  | .quietWindowEnd => Sys2Proof.Machine.execQuietWindowEnd s
  | .callBroadcastSent => Sys2Proof.Machine.execCallBroadcastSent s
  | .rollCallSlotClose => Sys2Proof.Machine.execRollCallSlotClose s
  | .hostByteReceived b => Sys2Proof.Machine.execHostByteReceived b s
  | .frameGapTimeout => Sys2Proof.Machine.execFrameGapTimeout s
  | .answerSent strap => Sys2Proof.Machine.execAnswerSent strap s
  | .yardStatus tag => Sys2Proof.Machine.execYardStatus tag s
  | .holderRead tag holder => Sys2Proof.Machine.execHolderRead tag holder s
  | .channelRead tag channel => Sys2Proof.Machine.execChannelRead tag channel s
  | .contactRead tag => Sys2Proof.Machine.execContactRead tag s
  | .meterRead tag channel => Sys2Proof.Machine.execMeterRead tag channel s
  | .districtRead tag district => Sys2Proof.Machine.execDistrictRead tag district s
  | .stationRead tag station => Sys2Proof.Machine.execStationRead tag station s
  | .lineResult tag => Sys2Proof.Machine.execLineResult tag s
  | .alarmRead tag position => Sys2Proof.Machine.execAlarmRead tag position s
  | .accountRead tag sequence => Sys2Proof.Machine.execAccountRead tag sequence s
  | .clockRead tag => Sys2Proof.Machine.execClockRead tag s
  | .tableRead tag copy table first count => Sys2Proof.Machine.execTableRead tag copy table first count s
  | .clockSet tag day second => Sys2Proof.Machine.execClockSet tag day second s
  | .tableWrite tag table first entries => Sys2Proof.Machine.execTableWrite tag table first entries s
  | .tableCommit tag => Sys2Proof.Machine.execTableCommit tag s
  | .tableDiscard tag => Sys2Proof.Machine.execTableDiscard tag s
  | .planSet tag fill send => Sys2Proof.Machine.execPlanSet tag fill send s
  | .holderHold tag holder => Sys2Proof.Machine.execHolderHold tag holder s
  | .holderFree tag holder => Sys2Proof.Machine.execHolderFree tag holder s
  | .holderOrder tag holder order => Sys2Proof.Machine.execHolderOrder tag holder order s
  | .valveConfirm tag valve => Sys2Proof.Machine.execValveConfirm tag valve s
  | .checkStart tag target pulses tolerance => Sys2Proof.Machine.execCheckStart tag target pulses tolerance s
  | .checkStop tag => Sys2Proof.Machine.execCheckStop tag s
  | .boosterReset tag => Sys2Proof.Machine.execBoosterReset tag s
  | .lineHold tag => Sys2Proof.Machine.execLineHold tag s
  | .lineFree tag => Sys2Proof.Machine.execLineFree tag s
  | .lineAsk tag station function argument => Sys2Proof.Machine.execLineAsk tag station function argument s
  | .lineKill tag => Sys2Proof.Machine.execLineKill tag s
  | .lineRestart tag => Sys2Proof.Machine.execLineRestart tag s
  | .alarmAck tag sourceType index kind => Sys2Proof.Machine.execAlarmAck tag sourceType index kind s
  | .alarmAckAll tag => Sys2Proof.Machine.execAlarmAckAll tag s
  | .accountFree tag sequence => Sys2Proof.Machine.execAccountFree tag sequence s
  | .restart tag => Sys2Proof.Machine.execRestart tag s

end Sys2Proof.Machine
end

