-- ==== Sys2Proof/Machine/Time.lean ====
section
/-! DEFINITION. Machine/Time.lean: one tick of the 10 kHz reference, which is what the part does while no command waits
(log entry 2). Every running timer moves on; no timer expires of itself, since each expiry is a command. -/

namespace Sys2Proof.Machine

/-- The travel timer of a valve (R50). -/
def Valve.tick (x : Valve) : Valve := { x with timer := x.timer.tick }

/-- The disagreement timer of a holder (R33). -/
def HolderRec.tick (r : HolderRec) : HolderRec := { r with disagreeTimer := r.disagreeTimer.tick }

/-- The interval counter of a channel, which goes no further than its limit (R107). -/
def Meter.tick (m : Meter) : Meter := { m with interval := m.interval.map fun n => min Config.intervalLimit (n + 1) }

/-- The timeout timer and the gate time of the check (R109). -/
def Check.tick (c : Check) : Check := { c with timer := c.timer.tick, gateTimer := c.gateTimer.tick }

/-- The booster's timers (R129). -/
def Booster.tick (b : Booster) : Booster :=
  { b with startTimer := b.startTimer.tick, runOnTimer := b.runOnTimer.tick }

/-- The line's timers; the quiet window of an ask still on the driver waits for its last byte (R149). -/
def Line.tick (l : Line) : Line :=
  { l with
    window := l.window.tick
    quiet := if l.driver = .dropped then l.quiet else l.quiet.map (· - 1)
    pollTimer := l.pollTimer.tick
    ageTimer := l.ageTimer.tick }

/-- The gap timer of the changeover record (R86). -/
def Plan.tick (p : Plan) : Plan := { p with record := p.record.map fun c => { c with gap := c.gap.tick } }

/-- The conversion and cycle timers (R2, R15). -/
def StartUp.tick (u : StartUp) : StartUp :=
  { u with conversionTimer := u.conversionTimer.tick, cycleTimer := u.cycleTimer.tick }

/-- One tick of the whole part, while its main supply is present. -/
def idleTick (s : State) : State :=
  if s.supply then
    { s with
      startUp := s.startUp.tick
      holders := Vector.ofFn fun h => s.holders[h].tick
      valves := Vector.ofFn fun v => s.valves[v].tick
      plan := s.plan.tick
      meters := Vector.ofFn fun p => s.meters[p].tick
      check := s.check.tick
      press := { s.press with tickTimer := s.press.tickTimer.tick }
      booster := s.booster.tick
      line := s.line.tick
      link := { s.link with gap := s.link.gap.tick } }
  else s

end Sys2Proof.Machine
end

