-- ==== Sys2Proof/Safety.lean ====
section
/-! DEFINITION. Safety.lean: what a sound state of the part is, record by record, in the terms the statements use. Each
condition follows from the rules of its chapter; a state that breaks one is a state no run reaches. -/

namespace Sys2Proof.Machine

/-! ### Alarm list (R172, R176, R177) -/

/-- At most 32 entries, at most one of each kind and source, ATTENTION as R177 judges it, and LIST-FULL only over a full
list. -/
def AlarmList.Sound (l : AlarmList) : Prop :=
  l.entries.length ≤ Config.alarmCapacity ∧
  l.entries.Pairwise (fun a b => ¬(a.kind = b.kind ∧ a.index = b.index)) ∧
  l.attention = l.entries.any (fun e => e.state != .standing) ∧
  (l.listFull = true → l.entries.length = Config.alarmCapacity)

/-! ### Valves, order queues and the booster -/

/-- A valve is driven one way and timed exactly while it travels that way, and a fault cause stands in FAULT and is gone
at rest (R50, R52 to R54, R57). -/
def Valve.Coherent (x : Valve) : Prop :=
  (x.drive = .openLine ↔ x.state = .opening) ∧ (x.drive = .closeLine ↔ x.state = .closing) ∧
  (x.timer.isSome = true ↔ x.state = .opening ∨ x.state = .closing) ∧
  (x.state = .fault → x.cause ≠ .noCause) ∧ (x.state = .closed ∨ x.state = .opened → x.cause = .noCause)

/-- At most eight entries, none but the head running, and none at all under AUTO (R61 to R63). -/
def HolderControl.Coherent (c : HolderControl) : Prop :=
  c.queue.length ≤ Config.orderCapacity ∧ (∀ e ∈ c.queue.tail, e.running = false) ∧
  (c.queue ≠ [] → c.control = .manual)

/-- The run line is driven while the booster starts, runs or runs on, and each timer runs in its own state (R129). -/
def Booster.Coherent (b : Booster) : Prop :=
  (b.runLine = true ↔ b.state = .starting ∨ b.state = .running ∨ b.state = .runOn) ∧
  (b.startTimer.isSome = true ↔ b.state = .starting) ∧ (b.runOnTimer.isSome = true ↔ b.state = .runOn) ∧
  (b.state = .failed → b.cause.isSome = true)

/-- Every valve, every order queue and the booster. -/
def YardSound (s : State) : Prop :=
  (∀ v : ValveId, s.valves[v].Coherent) ∧ (∀ h : HolderId, s.controls[h].Coherent) ∧ s.booster.Coherent

/-! ### Counters, the check and the clock -/

/-- The 16-bit counter, saturation only at its end, and the interval counter within its limit (R100, R102, R107). -/
def Meter.Coherent (m : Meter) : Prop :=
  m.counter < 65536 ∧ (m.saturated = true → m.stage = true ∧ m.counter = 65535) ∧
  (∀ n, m.interval = some n → n ≤ Config.intervalLimit)

/-- The timeout timer runs while the check is ARMED or RUNNING, the gate while it is RUNNING and short of its pulses
(R109 to R111). -/
def Check.Coherent (c : Check) : Prop :=
  (c.timer.isSome = true ↔ c.state = .armed ∨ c.state = .running) ∧ (c.gateTimer.isSome = true ↔ c.state = .running) ∧
  (c.state = .armed ∨ c.state = .running → c.target.isSome = true ∧ 0 < c.pulses) ∧
  (c.state = .running → c.targetCount < c.pulses) ∧ c.checkCount ≤ Config.intervalLimit

/-- A day number and a second of the day (R182). -/
def Time.Legal (t : Time) : Prop := t.day ≤ 65535 ∧ t.second ≤ 86399

/-- The clock, every pulse channel and the check. -/
def CountsSound (s : State) : Prop :=
  s.clock.Legal ∧ (∀ p : PulseId, s.meters[p].Coherent) ∧ s.check.Coherent

/-! ### Accounts (R164, R165) -/

/-- At most 64 records, each signed over the signature before it and its own bytes, the newest being the one the next
record chains on. -/
def Account.Sound (a : Account) : Prop :=
  a.queue.length ≤ Config.accountCapacity ∧ a.nextSequence < 65536 ∧
  (∀ r ∈ a.queue, r.signature = crc16 (wordBytes r.prevSignature ++ r.body)) ∧
  (∀ r, a.queue.getLast? = some r →
    r.signature = a.lastSignature ∧ (r.sequence + 1) % 65536 = a.nextSequence)

/-! ### The outstation line -/

/-- Misses count to 3, where the station is ABSENT, and a reading is there exactly when its freshness is not NONE
(R140, R143, R144). -/
def Station.Coherent (r : Station) : Prop :=
  r.misses ≤ 3 ∧ (r.presence = .absent ↔ r.misses = 3) ∧ r.age ≤ 65535 ∧
  (r.freshness = .noReading ↔ r.reading = none)

/-- The line state and the ask in flight fit one another (R140, R145 to R151). -/
def Line.Coherent (l : Line) : Prop :=
  (1 ≤ l.round ∧ l.round ≤ 8) ∧ (∀ q, l.quiet = some q → q ≤ Config.answerWindow) ∧
  (l.window.isSome = true → l.ask.isSome = true) ∧ (l.state = .calling → l.ask = none) ∧
  (l.state = .manualBusy ↔ ∃ a, l.ask = some a ∧ a.manual = true) ∧ (l.freePending = true → l.state = .manualBusy) ∧
  (l.state = .holding → l.ask.isSome = true) ∧ (l.slot.isSome = true → l.state = .calling) ∧
  (l.driver = .ask → l.ask.isSome = true) ∧ (l.driver = .call → l.state = .calling ∧ l.slot = none)

/-- The line by itself, and CALLING with nothing sent or awaited yet until the derivation sends the broadcast of the
start-up's roll call (R155, R184, R185). -/
def LineFits (s : State) : Prop :=
  s.line.Coherent ∧
  (planAwake s = false →
    s.line.state = .calling ∧ s.line.slot = none ∧ s.line.driver ≠ .call ∧ s.line.callWaiting = false)

/-- The line and every station. -/
def LineSound (s : State) : Prop := LineFits s ∧ ∀ n : StationId, s.stations[n].Coherent

/-! ### The host link (R187) -/

/-- The receiver is CLOSED exactly while an answer leaves, and holds bytes and times their gap exactly while it
receives. -/
def LinkSound (s : State) : Prop :=
  (s.link.receiver = .closed ↔ s.link.answer.isSome = true) ∧ (s.link.receiver = .receiving ↔ s.link.buffer ≠ []) ∧
  (s.link.gap.isSome = true ↔ s.link.receiver = .receiving)

/-! ### The plan (R74, R77, R92) -/

/-- Between events nothing waits in the plan's inbox, a record and a SETTLE record never stand together, and the plan
has its start-up values until the derivation (R98); from then on MAKE-HOLD is asserted exactly while no configured inlet
is OPEN. -/
def PlanSound (s : State) : Prop :=
  s.plan.inbox = [] ∧ (s.plan.record.isSome = true → s.plan.settle = none) ∧
  (planAwake s = false → s.plan = Plan.startUp) ∧
  (planAwake s = true →
    (s.plan.makeHold = true ↔ ∀ h : HolderId, s.tables.holderOn h = true → stateOf s (inletOf h) ≠ .opened))

/-! ### Frames -/

/-- An Account Unit with the flags of its open periods left out of sight. -/
def Account.unflagged (a : Account) : Account :=
  { a with hour := a.hour.map fun h => { h with flags := Flags.none }
           day := a.day.map fun d => { d with flags := Flags.none } }

/-- Two states that agree on everything but the holders, the order queues, the valves, the plan, the pressure chain, the
booster, the alarms, and the flags of the open periods with the check word that follows them: all that an event in the
yard can reach through the blocks that pass it on (00_scope.md, "Paths between the blocks"). -/
structure SameOutsideYard (s t : State) : Prop where
  supply : t.supply = s.supply
  part : t.part = s.part
  retained : { t.retained with account := t.account.unflagged, checkWord := 0 } =
    { s.retained with account := s.account.unflagged, checkWord := 0 }
  staged : t.staged = s.staged
  startUp : t.startUp = s.startUp
  channels : t.channels = s.channels
  points : t.points = s.points
  returns : t.returns = s.returns
  meters : t.meters = s.meters
  check : t.check = s.check
  stations : t.stations = s.stations
  line : t.line = s.line
  link : t.link = s.link
  pending : t.pending = s.pending

/-! ### Terms of the statements -/

/-- Every block that keeps nothing stands at the start-up values of its chapter, over tables `t` (R13, R23, R47, R71,
R98, R116, R138, R155), and the start-up sequence at its beginning (R184). -/
structure BlocksAtStartUp (t : Tables) (s : State) : Prop where
  part : s.part = .startUp
  staged : s.staged = t
  startUp : s.startUp = StartUp.start
  channels : ∀ c : ChannelId, s.channels[c] = Channel.startUp (t.channelOn c)
  points : ∀ k : PointId, s.points[k] = Point.startUp
  returns : ∀ i : ReturnId, s.returns[i] = ReturnLine.startUp
  holders : ∀ h : HolderId, s.holders[h] = HolderRec.startUp (capacityOf (t.lifts h))
  controls : ∀ h : HolderId, s.controls[h] = HolderControl.startUp
  valves : ∀ v : ValveId, s.valves[v] = Valve.startUp (t.valveOn v)
  plan : s.plan = Plan.startUp
  meters : ∀ p : PulseId, s.meters[p] = Meter.startUp
  check : s.check = Check.startUp
  districts : ∀ d : DistrictId, s.districts[d] = districtStartUp t d
  press : s.press = Pressure.startUp
  booster : s.booster = Booster.startUp
  stations : ∀ n : StationId, s.stations[n] = Station.startUp
  line : s.line = Line.startUp

/-- Powered and with its receiver open: the part takes a request that arrives now (R187). -/
def Listens (s : State) : Prop := s.supply = true ∧ s.link.receiver ≠ .closed

/-- An acting request reaches its block: the part is in RUN, or in UNCONFIGURED for a request that is taken there
(R188). -/
def Reaches (unconfiguredToo : Bool) (s : State) : Prop :=
  Listens s ∧ (s.part = .run ∨ (unconfiguredToo = true ∧ s.part = .unconfigured))

/-- A state as a request leaves it: the receiver CLOSED and its answer on the way (R187, R188), the frame buffer emptied
(log entry 65). -/
def answered (code tag : Byte) (r : Reply) (s : State) : State :=
  s.setLink { s.link with receiver := .closed, buffer := [], gap := none, answer := some ⟨code, tag, r⟩ }

/-- The plan has a changeover in hand that a valve has no part in and nothing else to do: no SETTLE record, nothing
delivered and not yet taken. -/
def PlanBusyElsewhere (v : ValveId) (s : State) : Prop :=
  s.plan.inbox = [] ∧ s.plan.settle = none ∧
  ∃ c, s.plan.record = some c ∧ c.phase ≠ .stuck ∧ c.oldValve ≠ some v ∧ c.newValve ≠ some v

/-- A valve driven from now in a direction (R52, R56). -/
def Valve.orderedFrom (x : Valve) (d : Direction) (o : Originator) : Valve :=
  match d with
  | .toOpen =>
    { x with state := .opening, drive := .openLine, timer := some 0, originator := o, planAwaits := decide (o = .plan) }
  | .toClose =>
    { x with state := .closing, drive := .closeLine, timer := some 0, originator := o,
             planAwaits := decide (o = .plan) }

/-- The selected stage and the working pressure of a holder whose record goes from `r` to `r'`: the stage of the named
source where that is valid, else of the first valid one of HEIGHT, SWITCH and PRESSURE, else the stage it had (R31); the
measured pressure while its channel is VALID or HELD, else the selected stage's own (R39). -/
def StageAndPressure (s : State) (h : HolderId) (r r' : HolderRec) : Prop :=
  let named := s.tables.stageSource h
  let p := s.channels[pressureChannel h]
  (match r'.stageOf named, r'.heightStage, r'.switchStage, r'.pressureStage with
    | some k, _, _, _ => r'.selected = k ∧ r'.stageFrom = named
    | none, some k, _, _ => r'.selected = k ∧ r'.stageFrom = .height
    | none, none, some k, _ => r'.selected = k ∧ r'.stageFrom = .switch
    | none, none, none, some k => r'.selected = k ∧ r'.stageFrom = .pressure
    | none, none, none, none => r'.selected = r.selected ∧ r'.stageFrom = .nowhere) ∧
  (p.status = .valid ∨ p.status = .held → r'.pressure = p.smoothed) ∧
  (p.status = .stale ∨ p.status = .off →
    (r'.selected = 0 → r'.pressure = 0) ∧
    (∀ i : Fin 4, r'.selected = i.val + 1 → r'.pressure = s.tables.lift[liftIndex h i].pressure))

/-- A configured valve's state from its contacts as a start-up derives it, and CLOSED for one that is not configured
(R50, R71). -/
def derivedState (s : State) (v : ValveId) : ValveState :=
  if s.tables.valveOn v then
    match s.valves[v].position with
    | .atOpen => .opened
    | .atShut => .closed
    | .between => .fault
    | .contradictory => .fault
    | .unknown => .fault
  else .closed

/-- Whether a judgment between two states has set the limit that closes a valve: TOP for an inlet, BOTTOM for an outlet
(R66). -/
def limitSets (s t : State) (v : ValveId) : Prop :=
  if isInlet v then s.holders[ownerOf v].top = false ∧ t.holders[ownerOf v].top = true
  else s.holders[ownerOf v].bottom = false ∧ t.holders[ownerOf v].bottom = true

/-- The holders of an order of preference, and then those missing from it, of a sort whose valve of a kind a start-up
derives as not CLOSED (R94). -/
def derivedOpen (s : State) (k : RoleKind) (may : HolderId → Bool) (order : List HolderId) : List HolderId :=
  (order ++ allHolders.filter fun h => !order.contains h).filter fun h =>
    may h && decide (derivedState s (k.valve h) ≠ .closed)

/-- A valve after the protective close that a limit gives it (R66, by R52, R56 and R57): in FAULT at the shut stop it
takes PROTECTION as its originator (log entry 10), CONTRADICTORY it keeps its former one (log entry 60). -/
def Valve.shutByProtection (x : Valve) : Valve :=
  match x.state with
  | .closed => { x with originator := .protection }
  | .opened => x.orderedFrom .toClose .protection
  | .opening => if x.originator = .protection then x else x.orderedFrom .toClose .protection
  | .closing => { x with originator := .protection }
  | .fault =>
    if x.position = .atShut then
      { x with state := .closed, drive := .undriven, timer := none, cause := .noCause, originator := .protection
               confirmed := false }
    else if x.position = .contradictory then { x with cause := .contradiction }
    else x.orderedFrom .toClose .protection

/-- A configured valve after a contact event that leaves it the contacts it now has (R51, R53, R55, R72): its arrival, a
contradiction, a drift, the UNSETTLED recovery, or nothing but the confirmed mark that AT-SHUT removes. -/
def Valve.judged (x : Valve) : Valve :=
  let x' := { x with confirmed := x.confirmed && decide (x.position ≠ .atShut) }
  let faulted (c : FaultCause) : Valve := { x' with state := .fault, drive := .undriven, timer := none, cause := c }
  let rests (st : ValveState) : Valve := { x' with state := st, drive := .undriven, timer := none, cause := .noCause }
  match x.state, x.position with
  | .opening, .atOpen => { rests .opened with lastTravel := x.timer.map seconds, planAwaits := false }
  | .closing, .atShut => { rests .closed with lastTravel := x.timer.map seconds, planAwaits := false }
  | .opening, .contradictory => { faulted .contradiction with planAwaits := false }
  | .closing, .contradictory => { faulted .contradiction with planAwaits := false }
  | .opened, .contradictory => faulted .contradiction
  | .closed, .contradictory => faulted .contradiction
  | .opened, .atShut => faulted .drift
  | .opened, .between => if x.confirmed then x' else faulted .drift
  | .closed, .atOpen => if x.confirmed then x' else faulted .drift
  | .closed, .between => if x.confirmed then x' else faulted .drift
  | .fault, .atOpen => if x.cause = .unsettled then rests .opened else x'
  | .fault, .atShut => if x.cause = .unsettled then rests .closed else x'
  | .fault, .between => if x.cause = .unsettled then { x' with cause := .midTravel } else x'
  | .fault, .contradictory => if x.cause = .unsettled then { x' with cause := .contradiction } else x'
  | _, _ => x'

/-- The record a changeover starts with (R82, R83). -/
def startedRecord (s : State) (k : RoleKind) (old new : Option HolderId) : Changeover :=
  let m := methodOf s k old new
  { kind := k, old := old, new := new, method := m, phase := if m = .bbm ∧ old ≠ none then .closeOld else .openNew
    awaited := [], gap := none, taken := false }

/-- The order a changeover starts with: the old valve closed for a BBM with a from-holder, the new one opened otherwise
(R83). -/
def firstOrder (s : State) (k : RoleKind) (old new : Option HolderId) : State :=
  match methodOf s k old new, old, new with
  | .bbm, some a, _ => planOrder (k.valve a) .toClose s
  | _, _, some b => planOrder (k.valve b) .toOpen s
  | _, _, none => s

/-- The role a record moves is held by a holder or by none, from `s` to `t`: the send role, or of the two fill roles the
one its holders have (R87). -/
def roleHeld (s t : State) (c : Changeover) (h : Option HolderId) : Prop :=
  match c.kind with
  | .send => t.plan.send = h
  | .fill =>
    (c.involves s.tables.isStore = true → t.plan.fill = h.filter s.tables.isStore) ∧
    (c.involves s.tables.isRelief = true → (t.plan.reliefFill = true ↔ ∃ g, h = some g ∧ s.tables.isRelief g = true))

/-- A valve becomes OPEN in an event's deliveries, and still is (R78; log entry 50). -/
def BecomesOpen (s : State) (notes : List PlanNote) (v : ValveId) : Prop :=
  stateOf s v = .opened ∧ (PlanNote.changed v .opened ∈ notes ∨ ∃ r, PlanNote.ended v r .opened ∈ notes)

/-- A role that follows its valves over an event's deliveries, from `role` to `role'` (R78): kept until its valve is
CLOSED, and while it is none taken by a holder of its sort whose valve becomes OPEN, of two the lower-numbered (log
entry 40). -/
def RoleFollows (s : State) (notes : List PlanNote) (k : RoleKind) (may : HolderId → Bool)
    (role role' : Option HolderId) : Prop :=
  let lost : Prop := ∀ h, role = some h → stateOf s (k.valve h) = .closed
  let takes (g : HolderId) : Prop := may g = true ∧ BecomesOpen s notes (k.valve g)
  (¬lost → role' = role) ∧
  (lost → (∀ g, takes g → (∀ f, f < g → ¬takes f) → role' = some g) ∧ ((∀ g, ¬takes g) → role' = none))

/-- The roles derived from the valves as they stand, from `s` to `t` (R94). A role's kept holder is its present one
where its valve is not CLOSED, else the first such holder of the working order; it holds the role while its valve is
OPEN. The SETTLE record lists the valves not CLOSED of the other holders, each ordered closed by the plan. -/
def RolesDerived (s t : State) : Prop :=
  let standing (k : RoleKind) (may : HolderId → Bool) (order : List HolderId) : List HolderId :=
    (order ++ allHolders.filter fun h => !order.contains h).filter fun h =>
      may h && decide (stateOf s (k.valve h) ≠ .closed)
  let outs := standing .send s.tables.holderOn s.retained.sendOrder
  let ins := standing .fill s.tables.isStore s.retained.fillOrder
  let kept (role : Option HolderId) (l : List HolderId) : Option HolderId :=
    match role with
    | some h => if h ∈ l then some h else l.head?
    | none => l.head?
  let send := kept s.plan.send outs
  let fill := kept s.plan.fill ins
  let surplus := allValves.filter fun v =>
    outs.any (fun h => v == outletOf h && send != some h) || ins.any fun h => v == inletOf h && fill != some h
  t.plan = { s.plan with
    send := send.filter fun h => stateOf s (outletOf h) == .opened
    fill := fill.filter fun h => stateOf s (inletOf h) == .opened
    reliefFill := t.plan.reliefFill, inbox := t.plan.inbox
    settle := if surplus = [] then none else some surplus } ∧
  (t.plan.reliefFill = true ↔ ∃ r, s.tables.relief = some r ∧ stateOf s (inletOf r) = .opened) ∧
  ∀ v : ValveId, t.valves[v] = if v ∈ surplus then (carryOut v .toClose .plan s).1.valves[v] else s.valves[v]

/-- What an hour's close divides for a channel: its accumulator with the window that the same event has just closed
(R104, R161). -/
def hourTotal (s : State) (i : Fin 5) : Int :=
  if s.tables.meterOn i.castSucc then s.account.accumulators[i] + windowVolume s.tables s i.castSucc
  else s.account.accumulators[i]

/-- The HOUR record `r` that a close between `s` and `t` makes of the open hour `h`, the windows closing in the same
event (R158, R161, R164): its figures, the districts it lists with their send-out, its balance, its place in the chain,
its flags, and the remainders it leaves in the accumulators. -/
def HourFiled (s : State) (h : Hour) (duration : Nat) (cause : Flags) (t : State) (r : Record) : Prop :=
  let litres (i : Fin 5) : Int := roundDiv (hourTotal s i) 1000
  let listed := allDistricts.filter fun d =>
    s.tables.districtOn d || s.tables.meterOn (districtPulse d) || decide (litres d.succ ≠ 0)
  let marked : Prop := ∃ i : Fin 5, s.tables.meterOn i.castSucc = true ∧ 0 < s.meters[i.castSucc].count ∧
    meterEstimated s i.castSucc = true
  r.dayRecord = false ∧ r.start = h.start ∧ r.duration = duration ∧ r.stockStart = h.stockStart ∧
  r.stockEnd = (yardStock s).figure ∧ r.make = litres 0 ∧
  r.districts = (if listed = [] then [0] else listed).map (fun d => ⟨d, litres d.succ, none, none⟩) ∧
  r.uag = r.make - (r.districts.map DistrictLine.sendOut).sum - (r.stockEnd - r.stockStart) ∧
  r.sequence = s.account.nextSequence ∧ r.prevSignature = s.account.lastSignature ∧
  r.signature = crc16 (wordBytes r.prevSignature ++ r.body) ∧
  (marked ∨ (yardStock s).estimated = true → r.flags = (h.flags.union cause).union Flags.ofEstimated) ∧
  (¬(marked ∨ (yardStock s).estimated = true) → r.flags = h.flags.union cause) ∧
  (∀ i : Fin 5, t.account.accumulators[i] = hourTotal s i - 1000 * litres i)

/-- The DAY record `x` filed right after the HOUR record `r`, of the open day `d` (R158, R162, R164): the day's sums
with that hour's, its districts with their points, its balance, its place in the chain and its flags. -/
def DayFiled (d : Day) (duration : Nat) (cause : Flags) (r x : Record) : Prop :=
  x.dayRecord = true ∧ x.start = d.start ∧ x.duration = duration ∧ x.make = d.make + r.make ∧
  x.stockStart = d.stockStart ∧ x.stockEnd = r.stockEnd ∧
  x.uag = x.make - (x.districts.map DistrictLine.sendOut).sum - (x.stockEnd - x.stockStart) ∧
  (∀ i : DistrictId, ∀ l ∈ x.districts, l.district = i →
    l.minPoint = d.minPoint[i] ∧ l.maxPoint = d.maxPoint[i] ∧
    l.sendOut = d.sendOut[i] + ((r.districts.filter fun y => y.district = i).map DistrictLine.sendOut).sum) ∧
  (∀ i : DistrictId, (∃ l ∈ x.districts, l.district = i) ↔
    d.listed[i] = true ∨ (∃ l ∈ r.districts, l.district = i) ∨ d.minPoint[i].isSome = true) ∧
  x.sequence = (r.sequence + 1) % 65536 ∧ x.prevSignature = r.signature ∧
  x.signature = crc16 (wordBytes x.prevSignature ++ x.body) ∧
  x.flags = ((d.flags.union d.hourFlags).union r.flags).union cause

/-- A code of the request catalogue (R188). -/
def InCatalogue (code : Byte) : Prop :=
  0x01 ≤ code.toNat ∧ code.toNat ≤ 0x0C ∨ 0x21 ≤ code.toNat ∧ code.toNat ≤ 0x35

/-- A body has the length that its request's fields give it (R188, R193): each field 1, 2 or 4 bytes, a sequence number
there or not, a list its count and its entries. A TABLE-WRITE to no table has no entry length to fit (log entry 11). -/
def BodyFits (code : Byte) (body : List Byte) : Prop :=
  let n := body.length
  if code ∈ ([0x02, 0x03, 0x05, 0x06, 0x07, 0x09, 0x26, 0x27, 0x29] : List Byte) then n = 1
  else if code ∈ ([0x28, 0x34] : List Byte) then n = 2
  else if code ∈ ([0x2F, 0x32] : List Byte) then n = 3
  else if code = 0x0C then n = 4
  else if code = 0x2A then n = 5
  else if code = 0x21 then n = 6
  else if code = 0x0A then n = 0 ∨ n = 2
  else if code = 0x22 then ∃ (t f k : Byte) (es : List Byte), body = t :: f :: k :: es ∧
    ((tableSize t.toNat).1 = 0 ∨ es.length = 4 * (tableSize t.toNat).2 * k.toNat)
  else if code = 0x25 then ∃ f x : List Byte, body = byteOf f.length :: f ++ byteOf x.length :: x
  else n = 0

/-- A momentary alarm is listed, or found a full list with nothing to evict (R174, R176). -/
def AlarmList.Told (l : AlarmList) (k : AlarmKind) (i : Nat) : Prop := (l.lookup k i).isSome = true ∨ l.listFull = true

/-- A poll of a station with READ-POINT put on the line driver (R141, R145). -/
def Line.polls (l : Line) (n : StationId) : Line :=
  { l with ask := some ⟨n, .readPoint, 0, false⟩, driver := .ask, window := none, bytes := [] }

/-- The first station of a list asked and the rest kept, or nothing asked where the list is empty (R145). -/
def Line.pollsFirst (l : Line) (list : List StationId) : Line :=
  match list with
  | [] => { l with roundList := [] }
  | n :: rest => { l with roundList := rest }.polls n

/-- The line with no ask in flight. -/
def Line.quieted (l : Line) : Line := { l with ask := none, driver := .idle, window := none, bytes := [] }

/-- The line state after a manual ask: HELD, or POLLING where a free is pending (R148). -/
def Line.afterManual (l : Line) : Line :=
  { l.quieted with state := if l.freePending then .polling else .held, freePending := false }

/-- The next poll from a line `l` to a line `l'` (R145). The stations at the front of the round list that are no longer
configured leave it and the next is asked; where none is left, the next round begins and the first of its list is asked,
a list of the configured stations that passes over the ABSENT ones but in round 8. -/
def NextPoll (s : State) (l l' : Line) : Prop :=
  (∃ (gone : List StationId) (n : StationId) (rest : List StationId), l.roundList = gone ++ n :: rest ∧
    (∀ g ∈ gone, s.tables.stationOn g = false) ∧ s.tables.stationOn n = true ∧
    l' = { l with roundList := rest }.polls n) ∨
  ((∀ g ∈ l.roundList, s.tables.stationOn g = false) ∧
    (let round := if l.round < 8 then l.round + 1 else 1
     l' = { l with round := round, firstRound := false }.pollsFirst
      (allStations.filter fun n => s.tables.stationOn n &&
        (decide (round = 8) || decide (s.stations[n].presence ≠ Presence.absent)))))

/-- What an evaluation from `s` to `t` has made of the booster: its demand by R130's two tests, the start of a STOPPED
one (R131), RUN-ON where the demand has gone (R133) and RUNNING again where it is back (R134). -/
def BoosterEvaluated (s t : State) : Prop :=
  let b := s.booster
  let b' := t.booster
  let wants (limit : Int) : Prop := ∃ d : DistrictId, s.tables.districtOn d = true ∧ limit < t.districts[d].wanted
  let kept := { b with demand := b'.demand }
  (b.demand = false → (b'.demand = true ↔ wants t.press.feed)) ∧
  (b.demand = true → (b'.demand = true ↔ wants (t.press.feed - s.tables.yard.demandHysteresis))) ∧
  (b.state = .idle →
    (b'.demand = true → s.press.send.isSome = true → s.tables.boosterFitted = true →
      (b.contact = ⟨true, true⟩ →
        b' = { kept with state := .running, runLine := true, startTimer := none, runOnTimer := none }) ∧
      (b.contact ≠ ⟨true, true⟩ → b' = { kept with state := .starting, runLine := true, startTimer := some 0 })) ∧
    ((b'.demand = false ∨ s.press.send = none ∨ s.tables.boosterFitted = false) → b' = kept)) ∧
  (b.state = .running →
    (b'.demand = true → b' = kept) ∧
    (b'.demand = false → b' = { kept with state := .runOn, runOnTimer := some 0 })) ∧
  (b.state = .runOn →
    (b'.demand = true → b' = { kept with state := .running, startTimer := none, runOnTimer := none }) ∧
    (b'.demand = false → b' = kept)) ∧
  ((b.state = .starting ∨ b.state = .failed) → b' = kept)

/-! ### The checks of a staged copy

For each table: whether a check of an entry fails, the checks numbered in the order in which they are made. A check's
number is its field's, but for the last three of a DISTRICT entry. -/

/-- Outside a range. -/
def Outside (a b x : Int) : Prop := x < a ∨ b < x

/-- HOLDER (R43). -/
def HolderFails (t : Tables) (h : HolderId) (k : Nat) : Prop :=
  let e := t.holder[h]
  (k = 1 ∧ (Outside 0 1 e.configured ∨ h = 0 ∧ ∀ g : HolderId, t.holder[g].configured ≠ 1)) ∨
  (k = 2 ∧ (Outside 0 1 e.role ∨ e.configured = 1 ∧ e.role = 1 ∧
    ∃ g : HolderId, g < h ∧ t.holder[g].configured = 1 ∧ t.holder[g].role = 1)) ∨
  (k = 3 ∧ Outside 0 2 e.source) ∨
  (k = 4 ∧ Outside 5 600 e.dwell)

/-- LIFT (R44). The lifts of a holder are four entries in a row, innermost first. -/
def LiftFails (t : Tables) (i : Fin 16) (k : Nat) : Prop :=
  let e := t.lift[i]
  let on := ∃ h : HolderId, h.val = i.val / 4 ∧ t.holder[h].configured = 1
  let travels := ((List.finRange 16).filter fun j =>
    decide (j.val / 4 = i.val / 4 ∧ j ≤ i ∧ t.lift[j].present = 1)).map fun j => t.lift[j].travel
  (k = 1 ∧ (Outside 0 1 e.present ∨ on ∧ i.val % 4 = 0 ∧ e.present ≠ 1 ∨
    on ∧ i.val % 4 ≠ 0 ∧ e.present = 1 ∧ ∃ j : Fin 16, j.val + 1 = i.val ∧ t.lift[j].present ≠ 1)) ∨
  (k = 2 ∧ Outside 1000 600000 e.area) ∨
  (k = 3 ∧ (Outside 500 15000 e.travel ∨ on ∧ e.present = 1 ∧ 40000 < travels.sum)) ∨
  (k = 4 ∧ (Outside 100 5000 e.pressure ∨
    on ∧ i.val % 4 ≠ 0 ∧ e.present = 1 ∧ ∃ j : Fin 16, j.val + 1 = i.val ∧ e.pressure ≤ t.lift[j].pressure))

/-- LIMIT (R45). -/
def LimitFails (t : Tables) (h : HolderId) (k : Nat) : Prop :=
  let e := t.limit[h]
  let on := t.holder[h].configured = 1
  (k = 1 ∧ (Outside 0 500 e.landing ∨ on ∧ t.lift[liftIndex h 0].travel ≤ e.landing)) ∨
  (k = 2 ∧ Outside 0 40000 e.bottom) ∨
  (k = 3 ∧ (Outside 0 40000 e.low ∨ on ∧ e.low ≤ e.bottom)) ∨
  (k = 4 ∧ (Outside 0 40000 e.high ∨ on ∧ e.high ≤ e.low)) ∨
  (k = 5 ∧ (Outside 0 40000 e.top ∨ on ∧ (e.top ≤ e.high ∨ ((t.lifts h).map LiftEntry.travel).sum < e.top))) ∨
  (k = 6 ∧ Outside 10 2000 e.hysteresis)

/-- CHANNEL (R11). C0 to C3 carry the heights of H1 to H4. -/
def ChannelFails (t : Tables) (c : ChannelId) (k : Nat) : Prop :=
  let e := t.channel[c]
  (k = 1 ∧ Outside (-100000) 200000 e.zero) ∨
  (k = 2 ∧ (Outside 1 200000 e.span ∨ 300000 < e.zero + e.span)) ∨
  (k = 3 ∧ Outside 0 4 e.shift) ∨
  (k = 4 ∧ Outside 1 600 e.staleLimit) ∨
  (k = 5 ∧ Outside 0 10922 e.openThreshold) ∨
  (k = 6 ∧ Outside 54614 65535 e.shortThreshold) ∨
  (k = 7 ∧ (Outside 0 1 e.enabled ∨
    e.enabled ≠ 1 ∧ ∃ h : HolderId, h.val = c.val ∧ t.holder[h].configured = 1))

/-- CONTACT (R21). The uses are numbered from NONE, 0, to BOOSTER-RUN, 6, and valve `v` belongs to holder (v + 1) / 2.
-/
def ContactFails (t : Tables) (p : PointId) (k : Nat) : Prop :=
  let e := t.contact[p]
  let unconfigured (n : Int) : Prop := ∀ h : HolderId, (number h : Int) = n → t.holder[h].configured ≠ 1
  (k = 1 ∧ (Outside 0 6 e.watch ∨ e.watch ≠ 0 ∧ ∃ q : PointId, q < p ∧ t.contact[q].watch = e.watch ∧
    t.contact[q].unit = e.unit ∧ t.contact[q].lift = e.lift)) ∨
  (k = 2 ∧ ((e.watch = 0 ∨ e.watch = 6) ∧ e.unit ≠ 0 ∨
    (e.watch = 1 ∨ e.watch = 2) ∧ (Outside 1 8 e.unit ∨ unconfigured ((e.unit + 1) / 2)) ∨
    (e.watch = 3 ∨ e.watch = 4 ∨ e.watch = 5) ∧ (Outside 1 4 e.unit ∨ unconfigured e.unit))) ∨
  (k = 3 ∧ (e.watch ≠ 3 ∧ e.lift ≠ 0 ∨ e.watch = 3 ∧ (e.lift < 2 ∨
    ∃ h : HolderId, (number h : Int) = e.unit ∧ ((t.lifts h).length : Int) < e.lift))) ∨
  (k = 4 ∧ Outside 0 1 e.polarity)

/-- VALVE (R69), the one check that reads the live records. -/
def ValveFails (s : State) (v : ValveId) (k : Nat) : Prop :=
  let t := s.staged
  let e := t.valve[v]
  let owned := t.holder[ownerOf v].configured = 1
  let assigned (use : Int) : Prop := ∃ p : PointId, t.contact[p].watch = use ∧ t.contact[p].unit = (number v : Int)
  (k = 1 ∧ (Outside 0 1 e.configured ∨ e.configured = 1 ∧ ¬(owned ∧ assigned 1 ∧ assigned 2) ∨
    e.configured ≠ 1 ∧ (owned ∨ s.tables.valve[v].configured = 1 ∧ s.valves[v].state ≠ .closed))) ∨
  (k = 2 ∧ Outside 10 900 e.timeout) ∨
  (k = 3 ∧ (Outside 5 899 e.slow ∨ e.timeout ≤ e.slow))

/-- METER (R114). -/
def MeterFails (t : Tables) (p : PulseId) (k : Nat) : Prop :=
  (k = 1 ∧ Outside 0 1 t.meter[p].enabled) ∨ (k = 2 ∧ Outside 1000 1000000 t.meter[p].pulseVolume)

/-- STATION (R153). -/
def StationFails (t : Tables) (n : StationId) (k : Nat) : Prop :=
  let e := t.station[n]
  (k = 1 ∧ Outside 0 1 e.configured) ∨ (k = 2 ∧ Outside 1 4 e.district) ∨ (k = 3 ∧ Outside 0 1 e.acceptOld) ∨
  (k = 4 ∧ Outside 30 3600 e.staleLimit)

/-- DISTRICT (R136): the ranges of the thirteen fields, then, for a configured entry, max_point, min_out and the two
checks of the station. -/
def DistrictFails (t : Tables) (d : DistrictId) (k : Nat) : Prop :=
  let e := t.district[d]
  let on := e.configured = 1
  (k = 1 ∧ Outside 0 1 e.configured) ∨ (k = 2 ∧ Outside 0 8 e.station) ∨ (k = 3 ∧ Outside 0 5000 e.minOut) ∨
  (k = 4 ∧ Outside 0 5000 e.maxOut) ∨ (k = 5 ∧ Outside 0 5000 e.minPoint) ∨ (k = 6 ∧ Outside 0 5000 e.maxPoint) ∨
  (k = 7 ∧ Outside (-100) 300 e.elevation) ∨ (k = 8 ∧ Outside 0 1200 e.gain) ∨ (k = 9 ∧ Outside 0 1000 e.loadGain) ∨
  (k = 10 ∧ Outside 1 100 e.trimStep) ∨ (k = 11 ∧ Outside 0 500 e.trimBand) ∨ (k = 12 ∧ Outside 0 1000 e.trimLimit) ∨
  (k = 13 ∧ Outside 1 200 e.slew) ∨
  (k = 14 ∧ on ∧ e.maxPoint ≤ e.minPoint) ∨
  (k = 15 ∧ on ∧ min e.maxOut (e.maxPoint - roundDiv (e.elevation * e.gain) 100) < e.minOut) ∨
  (k = 16 ∧ on ∧ e.station ≠ 0 ∧
    ((∀ n : StationId, (number n : Int) = e.station →
        ¬(t.station[n].configured = 1 ∧ t.station[n].district = (number d : Int))) ∨
      ∃ g : DistrictId, g < d ∧ t.district[g].configured = 1 ∧ t.district[g].station = e.station))

/-- PROFILE, ACCOUNT and YARD (R96, R136, R170). -/
def ProfileFails (t : Tables) (i : Fin 192) (k : Nat) : Prop := k = 1 ∧ Outside 0 5000 t.profile[i]

def AccountFails (e : AccountEntry) (k : Nat) : Prop :=
  (k = 1 ∧ Outside 0 23 e.gasDayStart) ∨ (k = 2 ∧ Outside 1 1000 e.advisory) ∨
  (k = 3 ∧ (Outside 1 1000 e.alarm ∨ e.alarm < e.advisory)) ∨ (k = 4 ∧ Outside 0 100000000 e.floor)

def YardFails (e : YardEntry) (k : Nat) : Prop :=
  (k = 1 ∧ Outside 0 500 e.tolerance) ∨ (k = 2 ∧ Outside 0 120 e.gapTime) ∨ (k = 3 ∧ Outside 0 1000 e.margin) ∨
  (k = 4 ∧ Outside 0 3000 e.boosterRise) ∨ (k = 5 ∧ Outside 5 120 e.startTimeout) ∨
  (k = 6 ∧ Outside 0 255 e.runOnCode) ∨ (k = 7 ∧ Outside 0 500 e.demandHysteresis)

/-- Check `k` of entry `i` of table `no` of the staged copy fails (R190). -/
def StagedFails (s : State) (no i k : Nat) : Prop :=
  let t := s.staged
  (no = 1 ∧ ∃ h : HolderId, h.val = i ∧ HolderFails t h k) ∨ (no = 2 ∧ ∃ l : Fin 16, l.val = i ∧ LiftFails t l k) ∨
  (no = 3 ∧ ∃ h : HolderId, h.val = i ∧ LimitFails t h k) ∨
  (no = 4 ∧ ∃ c : ChannelId, c.val = i ∧ ChannelFails t c k) ∨
  (no = 5 ∧ ∃ p : PointId, p.val = i ∧ ContactFails t p k) ∨ (no = 6 ∧ ∃ v : ValveId, v.val = i ∧ ValveFails s v k) ∨
  (no = 7 ∧ ∃ p : PulseId, p.val = i ∧ MeterFails t p k) ∨
  (no = 8 ∧ ∃ n : StationId, n.val = i ∧ StationFails t n k) ∨
  (no = 9 ∧ ∃ d : DistrictId, d.val = i ∧ DistrictFails t d k) ∨
  (no = 10 ∧ ∃ j : Fin 192, j.val = i ∧ ProfileFails t j k) ∨ (no = 11 ∧ i = 0 ∧ AccountFails t.account k) ∨
  (no = 12 ∧ i = 0 ∧ YardFails t.yard k)

/-- The field at which check `k` of an entry of table `no` is judged: its own number's, but for DISTRICT's last three,
judged at max_point, min_out and station (R136). -/
def checkedField (no k : Nat) : Nat :=
  if no = 9 then (if k = 14 then 6 else if k = 15 then 3 else if k = 16 then 2 else k) else k

/-! ### Runs -/

/-- A queue of commands run one after another, as their steps would run them. -/
def runAll : List Instr → State → Host.Outcome State Fault Refusal
  | [], s => .next s
  | c :: l, s =>
    match exec c s with
    | .next t => runAll l t
    | o => o

end Sys2Proof.Machine
end

