-- ==== Sys2Proof/WellFormed.lean ====
section
/-! DEFINITION. WellFormed.lean: which commands a sender can send. An event's operands are bounded by their types.
A request's fields must fit the 1, 2 or 4 bytes that R193 gives them, and its body the 244 bytes of a frame. -/

namespace Sys2Proof

/-- A field of one byte (R193). -/
def fitsByte (x : Nat) : Bool := decide (x < 256)

/-- A field of two bytes (R193). -/
def fitsTwo (x : Nat) : Bool := decide (x < 65536)

/-- A field of four bytes (R193). -/
def fitsFour (x : Nat) : Bool := decide (x < 4294967296)

/-- A table field is a 4-byte signed number (R193). -/
def fitsSigned (x : Int) : Bool := decide (-2147483648 ≤ x ∧ x ≤ 2147483647)

/-- A list of one-byte entries under a one-byte count (R193). -/
def fitsList (l : List Nat) : Bool := fitsByte l.length && l.all fitsByte

/-- The entries of a TABLE-WRITE: at most 60 four-byte fields fit a body of 244 bytes behind three bytes of header. -/
def fitsEntries (es : List (List Int)) : Bool :=
  fitsByte es.length && es.all (fun e => e.all fitsSigned) && decide (es.flatten.length ≤ 60)

/-- Whether the request's fields fit their places in a frame. -/
def Instr.wf : Instr → Bool
  | .powerOn _ _ => true
  | .supplyLoss => true
  | .conversion _ _ => true
  | .scanCycleEnd _ _ _ => true
  | .stageDwellExpiry _ => true
  | .valveTravelTimeout _ => true
  | .gapTimerExpiry => true
  | .pulse _ => true
  | .intervalCounterStop _ => true
  | .checkTimeout => true
  | .clockAdvance => true
  | .tick => true
  | .boosterStartTimeout => true
  | .runOnExpiry => true
  | .outstationAskSent => true
  | .outstationByteReceived _ _ => true
  | .answerWindowClose => true
  | .readingAgeSecond => true
  | .pollTimerExpiry => true
  | .quietWindowEnd => true
  | .callBroadcastSent => true
  | .rollCallSlotClose => true
  | .hostByteReceived _ => true
  | .frameGapTimeout => true
  | .answerSent _ => true
  | .yardStatus _ => true
  | .holderRead _ h => fitsByte h
  | .channelRead _ c => fitsByte c
  | .contactRead _ => true
  | .meterRead _ c => fitsByte c
  | .districtRead _ d => fitsByte d
  | .stationRead _ n => fitsByte n
  | .lineResult _ => true
  | .alarmRead _ p => fitsByte p
  | .accountRead _ q => (q.map fitsTwo).getD true
  | .clockRead _ => true
  | .tableRead _ c t f n => fitsByte c && fitsByte t && fitsByte f && fitsByte n
  | .clockSet _ d s => fitsTwo d && fitsFour s
  | .tableWrite _ t f es => fitsByte t && fitsByte f && fitsEntries es
  | .tableCommit _ => true
  | .tableDiscard _ => true
  | .planSet _ f s => fitsList f && fitsList s && decide (f.length + s.length ≤ 242)
  | .holderHold _ h => fitsByte h
  | .holderFree _ h => fitsByte h
  | .holderOrder _ h o => fitsByte h && fitsByte o
  | .valveConfirm _ v => fitsByte v
  | .checkStart _ t n p => fitsByte t && fitsTwo n && fitsTwo p
  | .checkStop _ => true
  | .boosterReset _ => true
  | .lineHold _ => true
  | .lineFree _ => true
  | .lineAsk _ n f a => fitsByte n && fitsByte f && fitsByte a
  | .lineKill _ => true
  | .lineRestart _ => true
  | .alarmAck _ t i k => fitsByte t && fitsByte i && fitsByte k
  | .alarmAckAll _ => true
  | .accountFree _ q => fitsTwo q
  | .restart _ => true

end Sys2Proof
end

