-- ==== Sys2Proof/Certificates/Slice0/Obligations.lean ====
section
/-! DEFINITION. Certificates/Slice0/Obligations.lean: what is claimed of the model. A claim cites the numbered rules or
the sections of the manual it rests on; one that also rests on a choice of the model's names its log entry. -/

open Sys2Proof Sys2Proof.Machine

/-! ### Steps, power and start-up -/

/-- A step takes the command at the front of the queue and runs its meaning with the queue's rest. -/
def Obligations.StepTakesFrontCommand : Prop :=
  ∀ (c : Instr) (rest : List Instr) (s : State),
    step { s with pending := c :: rest } = exec c { s with pending := rest }

/-- With no command waiting a step is one tick of the 10 kHz reference: every running timer moves on by one, the quiet
window of an ask that has left the driver runs down by one, nothing expires, and nothing else changes. This is the
model's own arrangement (log entry 2). -/
def Obligations.EmptyQueueIsOneTick : Prop :=
  ∀ s : State, s.pending = [] → ∃ t, step s = .next t ∧
    (s.supply = false → t = s) ∧
    (s.supply = true →
      (∀ v : ValveId, t.valves[v] = { s.valves[v] with timer := s.valves[v].timer.map (· + 1) }) ∧
      (∀ h : HolderId,
        t.holders[h] = { s.holders[h] with disagreeTimer := s.holders[h].disagreeTimer.map (· + 1) }) ∧
      (∀ p : PulseId,
        t.meters[p] = { s.meters[p] with interval := s.meters[p].interval.map fun n => min 16777215 (n + 1) }) ∧
      t.check = { s.check with timer := s.check.timer.map (· + 1), gateTimer := s.check.gateTimer.map (· + 1) } ∧
      t.booster = { s.booster with startTimer := s.booster.startTimer.map (· + 1)
                                   runOnTimer := s.booster.runOnTimer.map (· + 1) } ∧
      t.plan = { s.plan with record := s.plan.record.map fun c => { c with gap := c.gap.map (· + 1) } } ∧
      t.press = { s.press with tickTimer := s.press.tickTimer.map (· + 1) } ∧
      t.line = { s.line with window := s.line.window.map (· + 1), pollTimer := s.line.pollTimer.map (· + 1)
                             ageTimer := s.line.ageTimer.map (· + 1)
                             quiet := if s.line.driver = .dropped then s.line.quiet
                               else s.line.quiet.map (· - 1) } ∧
      t.link = { s.link with gap := s.link.gap.map (· + 1) } ∧
      t.startUp = { s.startUp with conversionTimer := s.startUp.conversionTimer.map (· + 1)
                                   cycleTimer := s.startUp.cycleTimer.map (· + 1) } ∧
      t = { s with startUp := t.startUp, holders := t.holders, valves := t.valves, plan := t.plan, meters := t.meters,
                   check := t.check, press := t.press, booster := t.booster, line := t.line, link := t.link })

/-- A power-on over retained memory whose check word is bad, or that the backup cell did not keep, is a cold start: the
part stands as it stands at reset, with the figures R181 gives its retained memory, and only the strap is read and the
queue of waiting commands kept. -/
def Obligations.ColdStartIsReset : Prop :=
  ∀ (s : State) (kept strap : Bool), s.supply = false → (kept = false ∨ s.retained.checkGood = false) →
    ∃ t, exec (.powerOn kept strap) s = .next t ∧
      t = { State.reset with link := Link.startUp strap, pending := s.pending } ∧
      t.part = .startUp ∧ t.retained.checkGood = true ∧ t.clock = ⟨0, 0⟩ ∧ t.retained.clockSet = false ∧
      t.retained.configured = false ∧ t.account.running = false ∧ t.account.queue = [] ∧ t.account.nextSequence = 0 ∧
      t.account.lastSignature = 0xFFFF ∧ (∀ d : DistrictId, t.retained.trims[d] = 0) ∧
      t.retained.fillOrder = [0, 1, 2, 3] ∧ t.retained.sendOrder = [0, 1, 2, 3] ∧
      (∀ h : HolderId, t.tables.holderOn h = false) ∧ (∀ v : ValveId, t.tables.valveOn v = false) ∧
      (∀ c : ChannelId, t.tables.channelOn c = false) ∧ (∀ p : PulseId, t.tables.meterOn p = false) ∧
      (∀ n : StationId, t.tables.stationOn n = false) ∧ (∀ d : DistrictId, t.tables.districtOn d = false) ∧
      (∀ k : PointId, t.tables.contact[k].watches = .nothing)

/-- What power does to the part. A power-on over sound retained memory is a warm start: every retained item stands, but
that a RUNNING Account Unit has the start-up hold set and its open periods marked MAKE-HOLD, that output being asserted
at the release of the drives (log entry 20); the check word is written over that; CLOCK-UNSET rises where the clock-set
mark is clear. A supply loss leaves retained memory and the queue of waiting commands, and nothing else; that what is
lost stands at its start-up values while the supply is off is the model's own arrangement (log entry 17). Either way
every block that keeps nothing stands at its start-up values. -/
def Obligations.WarmStartAndSupplyLoss : Prop :=
  (∀ (s : State) (strap : Bool), s.supply = false → s.retained.checkGood = true →
    ∃ t, exec (.powerOn true strap) s = .next t ∧ t.supply = true ∧ BlocksAtStartUp s.tables t ∧
      t.retained = Retained.written { s.retained with account :=
        if s.account.running then
          { s.account with hold := true
                           hour := s.account.hour.map fun h => { h with flags := { h.flags with makeHold := true } }
                           day := s.account.day.map fun d => { d with flags := { d.flags with makeHold := true } } }
        else { s.account with hold := false } } ∧
      t.alarms = (if s.retained.clockSet then ⟨[], false, false⟩
        else ⟨[⟨.clockUnset, 0, .raised, s.retained.clock, true, 0⟩], false, true⟩) ∧
      t.link = Link.startUp strap ∧ t.pending = s.pending) ∧
  (∀ s : State, s.supply = true →
    ∃ t, exec .supplyLoss s = .next t ∧ t.supply = false ∧ BlocksAtStartUp s.tables t ∧ t.retained = s.retained ∧
      t.alarms = ⟨[], false, false⟩ ∧ t.link = Link.startUp s.link.fast ∧ t.pending = s.pending)

/-- The start-up sequence. The derivation falls at the conversion that completes the first full conversion with two scan
cycles ended, or at the second cycle's end, as the model reads R184 (log entry 19). Each configured valve takes the
state its contacts give (R71). Each configured holder is judged (R47), and a limit that sets closes its valve by
protection. The plan keeps the first holder of each working order whose valve is not CLOSED, gives it the role where the
valve is OPEN, and settles the others (R94). Then the CALL broadcast goes. The close of slot 8 ends the sequence (R185):
the line polls, the start-up hold is gone, and the part is in RUN or UNCONFIGURED by the configured mark. Where the hold
stood, the open hour is closed as a POWER-GAP record, and the open day too where the clock lies in another gas day
(R169). Each configured district of a part that enters RUN keeps the retained trim for reading, has trim 0, and its
output is driven, its setpoint beginning without slew (R138). -/
def Obligations.StartUpSequence : Prop :=
  (∀ (c : ChannelId) (raw : BitVec 16) (s : State), s.supply = true → planAwake s = false → s.plan = Plan.startUp →
    2 ≤ s.startUp.scans → (∀ i : ChannelId, i ≠ c → s.startUp.converted[i] = true) →
    ∃ t, exec (.conversion c raw) s = .next t ∧
      (let outs := derivedOpen s .send s.tables.holderOn s.retained.sendOrder
       let ins := derivedOpen s .fill s.tables.isStore s.retained.fillOrder
       let listed (v : ValveId) : Bool :=
        outs.any (fun h => decide (outs.head? ≠ some h ∧ v = outletOf h)) ||
          ins.any (fun h => decide (ins.head? ≠ some h ∧ v = inletOf h))
       let stands (v : ValveId) : Prop := derivedState s v = .opened ∧ ¬limitSets s t v
       (∀ v : ValveId,
        let x := s.valves[v]
        let y := t.valves[v]
        (s.tables.valveOn v = false → y = x) ∧
        (s.tables.valveOn v = true → (derivedState s v = .closed ∨ ¬(limitSets s t v ∨ listed v = true)) →
          y.state = derivedState s v ∧ y.drive = .undriven ∧ y.timer = none ∧
          (y.state = .fault → y.cause = match x.position with
            | .between => .midTravel
            | .contradictory => .contradiction
            | _ => .unsettled)) ∧
        (s.tables.valveOn v = true → derivedState s v ≠ .closed → (limitSets s t v ∨ listed v = true) →
          (x.position = .contradictory → y.state = .fault ∧ y.cause = .contradiction ∧ y.drive = .undriven) ∧
          (x.position ≠ .contradictory →
            y.state = .closing ∧ y.drive = .closeLine ∧ y.timer = some 0 ∧
            (limitSets s t v → y.originator = .protection) ∧ (¬limitSets s t v → y.originator = .plan)))) ∧
       (∀ h : HolderId, t.plan.send = some h ↔ outs.head? = some h ∧ stands (outletOf h)) ∧
       (∀ h : HolderId, t.plan.fill = some h ↔ ins.head? = some h ∧ stands (inletOf h)) ∧
       (t.plan.reliefFill = true ↔ ∃ h, s.tables.relief = some h ∧ stands (inletOf h)) ∧
       t.plan.settle = (if (allValves.filter listed) = [] then none else some (allValves.filter listed)) ∧
       t.plan.record = none ∧ t.plan.freeze = false ∧ t.plan.sendShort = false ∧
       (t.plan.makeHold = true ↔ ∀ h : HolderId, s.tables.holderOn h = true → stateOf t (inletOf h) ≠ .opened)) ∧
      (∀ h : HolderId, s.tables.holderOn h = true →
        let r := s.holders[h]
        let r' := t.holders[h]
        let l := s.tables.limit[h]
        let p := t.channels[pressureChannel h]
        (r'.usable = true ↔ t.channels[heightChannel h].status = .valid ∨ t.channels[heightChannel h].status = .held) ∧
        (r'.usable = true → r'.height =
          clamp 0 ((s.tables.lifts h).map LiftEntry.travel).sum t.channels[heightChannel h].smoothed) ∧
        (r'.usable = false → r'.height = r.height ∧ r'.stock = r.stock ∧ r'.estimated = true) ∧
        (r.high = false → r.low = false → r.top = false → r.bottom = false →
          (r'.high = true ↔ r'.usable = true ∧ l.high ≤ r'.height) ∧
          (r'.low = true ↔ r'.usable = true ∧ r'.height ≤ l.low) ∧
          (r'.top = true ↔ (r'.usable = true ∧ l.top ≤ r'.height) ∨ r.crownTop = ⟨true, true⟩) ∧
          (r'.bottom = true ↔ (r'.usable = true ∧ r'.height ≤ l.bottom) ∨ r.crownBottom = ⟨true, true⟩)) ∧
        (r'.usable = true →
          r'.volume = volumeAt (s.tables.lifts h) r'.height ∧ r'.worked = true ∧
          r'.stock = stdVolume r'.volume (t.channels[barometer].figure 101325) r'.pressure
            (t.channels[temperatureChannel h].figure 1500)) ∧
        (p.status = .valid ∨ p.status = .held → r'.pressure = p.smoothed)) ∧
      (∀ h : HolderId, s.tables.holderOn h = false → t.holders[h] = s.holders[h]) ∧
      t.line = { s.line with state := .calling, driver := .call, slot := none, callWaiting := false, bytes := [] } ∧
      SameOutsideYard { s with channels := t.channels, line := t.line
                               startUp := { s.startUp with converted := s.startUp.converted.set c true
                                                           conversionTimer := some 0, derived := true } } t) ∧
  (∀ (made : BitVec 64) (quiet : BitVec 4) (order : BlockOrder) (s : State), s.supply = true → planAwake s = false →
    s.startUp.scans = 1 → (∀ i : ChannelId, s.startUp.converted[i] = true) →
    ∃ t, exec (.scanCycleEnd made quiet order) s = .next t ∧ t.startUp.derived = true ∧ t.line.state = .calling ∧
      t.line.driver = .call ∧ t.line.slot = none) ∧
  (∀ s : State, s.supply = true → s.part = .startUp → s.line.slot = some 7 →
    ∃ t, exec .rollCallSlotClose s = .next t ∧
      t.part = (if s.retained.configured then .run else .unconfigured) ∧ t.account.hold = false ∧
      (∀ d : DistrictId, t.retained.trims[d] = (if s.tables.districtOn d then 0 else s.retained.trims[d])) ∧
      t.line.state = .polling ∧ t.line.round = 1 ∧ t.line.firstRound = true ∧ t.line.pollTimer = some 0 ∧
      (s.retained.configured = true → t.press.tickTimer = some 0 ∧ t.press.begun = true ∧
        ∀ d : DistrictId, s.tables.districtOn d = true →
          t.districts[d].trimBefore = some s.retained.trims[d] ∧ t.districts[d].driven = true ∧
          t.districts[d].lastDecision = none) ∧
      (s.account.hold = false → t.account.queue = s.account.queue) ∧
      (∀ (h : Hour) (d : Day), s.account.hold = true → s.account.running = true → s.account.hour = some h →
        s.account.day = some d → s.account.queue.length < 63 →
        ∃ r : Record, r.dayRecord = false ∧ r.flags.powerGap = true ∧ r.sequence = s.account.nextSequence ∧
          r.prevSignature = s.account.lastSignature ∧ r.start = h.start ∧ r.duration = h.elapsed ∧
          r.stockStart = h.stockStart ∧ r.stockEnd = (yardStock s).figure ∧
          r.uag = r.make - (r.districts.map DistrictLine.sendOut).sum - (r.stockEnd - r.stockStart) ∧
          (∃ h', t.account.hour = some h' ∧ h'.start = s.clock ∧ h'.elapsed = 0 ∧ h'.stockStart = r.stockEnd) ∧
          (gasDayOf s.tables.gasDaySecond s.clock = d.nominal → t.account.queue = s.account.queue ++ [r] ∧
            ∃ d', t.account.day = some d' ∧ d'.start = d.start ∧ d'.elapsed = d.elapsed ∧
              d'.make = d.make + r.make) ∧
          (gasDayOf s.tables.gasDaySecond s.clock ≠ d.nominal → ∃ r' : Record,
            t.account.queue = s.account.queue ++ [r, r'] ∧ r'.dayRecord = true ∧ r'.flags.powerGap = true ∧
            r'.start = d.start ∧ r'.duration = d.elapsed ∧ r'.make = d.make + r.make ∧
            r'.stockStart = d.stockStart ∧ r'.stockEnd = r.stockEnd ∧
            ∃ d', t.account.day = some d' ∧ d'.start = s.clock ∧ d'.elapsed = 0 ∧ d'.make = 0))) ∧
  (∀ (d : DistrictId) (s : State), s.tables.districtOn d = true →
    (let e := s.tables.district[d]
     let t := beginSetpoints s
     let r := t.districts[d]
     r.setpoint = min (min r.profileTerm (min e.maxOut (e.maxPoint - roundDiv (e.elevation * e.gain) 100)))
        t.press.available ∧
      r.loadTerm = 0 ∧ r.frozen = false ∧ r.feedShort = false ∧ t.press.send = s.plan.send ∧
      (∀ i : Fin 48, s.retained.clockSet = true → i.val = s.clock.second / 1800 →
        r.profileTerm = s.tables.profile[profileIndex d i])))

/-! ### Measurement channels and contacts -/

/-- A conversion. A good reading of an enabled channel is scaled, clamped, smoothed and VALID (R4 to R6); a faulted one
holds the figures, ages by one and is HELD or STALE by the stale limit (R3, R7); an OFF channel takes the raw count
alone (R9). The conversion touches no other channel; from the derivation on it reaches nothing outside the yard's
blocks, and no holder it does not measure. -/
def Obligations.Conversion : Prop :=
  ∀ (c : ChannelId) (raw : BitVec 16) (s : State), s.supply = true →
    ∃ t, exec (.conversion c raw) s = .next t ∧
      (let e := s.tables.channel[c]
       let r := s.channels[c]
       let value := clamp e.zero (e.zero + e.span) (e.zero + roundDiv (((raw.toNat : Int) - 10923) * e.span) 43690)
       let age := min 65535 (r.age + 1)
       (e.enabled = 1 → e.openThreshold ≤ (raw.toNat : Int) → (raw.toNat : Int) ≤ e.shortThreshold →
        t.channels = s.channels.set c
          { raw := raw.toNat, lastGood := some raw.toNat, value := value
            smoothed := if r.seed then value else r.smoothed + roundDiv (value - r.smoothed) (2 ^ e.shift.toNat)
            seed := false, status := .valid, fault := .noFault, age := 0 }) ∧
       (e.enabled = 1 → ((raw.toNat : Int) < e.openThreshold ∨ e.shortThreshold < (raw.toNat : Int)) →
        t.channels = s.channels.set c
          { r with raw := raw.toNat, seed := true, age := age
                   fault := if (raw.toNat : Int) < e.openThreshold then .openLoop else .shortLoop
                   status := if r.lastGood = none then .stale else if (age : Int) ≤ 4 * e.staleLimit then .held
                     else .stale }) ∧
       (e.enabled ≠ 1 → t.channels = s.channels.set c { r with raw := raw.toNat })) ∧
      (planAwake s = true →
        SameOutsideYard { s with channels := t.channels
                                 startUp := { s.startUp with converted := s.startUp.converted.set c true
                                                             conversionTimer := some 0 } } t ∧
        (∀ h : HolderId, c ≠ heightChannel h → c ≠ pressureChannel h → c ≠ temperatureChannel h → c ≠ barometer →
          t.holders[h] = s.holders[h]))

/-- A conversion of a channel that measures no holder, C13 and up: the record, the channel's alarm condition where it
rises or ends, and the start-up's count are all that changes (R6, R8, R9). -/
def Obligations.ConversionOutsideTheHolders : Prop :=
  ∀ (c : ChannelId) (raw : BitVec 16) (s : State), s.supply = true → planAwake s = true → s.plan.inbox = [] →
    12 < c.val →
    ∃ r, exec (.conversion c raw) s = .next
        (let t := { s with channels := s.channels.set c r
                           startUp := { s.startUp with converted := s.startUp.converted.set c true
                                                       conversionTimer := some 0 } }
         if s.channels[c].fault = .noFault ∧ r.fault ≠ .noFault then raiseAlarm .channelFault c.val t
         else if s.channels[c].fault ≠ .noFault ∧ r.fault = .noFault then endAlarm .channelFault c.val t else t) ∧
      r.raw = raw.toNat ∧
      (s.tables.channel[c].enabled ≠ 1 → r = { s.channels[c] with raw := raw.toNat }) ∧
      (s.tables.channel[c].enabled = 1 →
        (r.fault = .openLoop ↔ (raw.toNat : Int) < s.tables.channel[c].openThreshold) ∧
        (r.fault = .noFault ↔ s.tables.channel[c].openThreshold ≤ (raw.toNat : Int) ∧
          (raw.toNat : Int) ≤ s.tables.channel[c].shortThreshold))

/-- Conversions of a configured holder's height and pressure channels, and its switch stage. Height: usable with VALID
or HELD, clamped to the holder's travel, the height stage, the volume and the stock worked from it, HIGH, LOW, TOP and
BOTTOM judged; not usable otherwise, with the figures kept and TOP and BOTTOM on their contacts (R26 to R28, R35 to R37,
R41, R42). Pressure: the stage whose pressure lies nearest (R30). Both: the selected stage from the named source or the
first valid one (R31) and the working pressure (R39), which for a kept stage above the present lifts is the figure of
its LIFT entry (log entry 35). The switch stage counts the active cups (R29). -/
def Obligations.HeightConversion : Prop :=
  (∀ (h : HolderId) (raw : BitVec 16) (s : State), s.supply = true → planAwake s = true → s.tables.holderOn h = true →
    ∃ t, exec (.conversion (heightChannel h) raw) s = .next t ∧
      (let c := t.channels[heightChannel h]
       let l := s.tables.limit[h]
       let ls := s.tables.lifts h
       let rise (k : Nat) : Int := ((ls.take k).map LiftEntry.travel).sum
       let r := s.holders[h]
       let r' := t.holders[h]
       (r'.usable = true ↔ c.status = .valid ∨ c.status = .held) ∧
       (r'.usable = true →
        r'.height = clamp 0 ((s.tables.lifts h).map LiftEntry.travel).sum c.smoothed ∧
        r'.volume = volumeAt (s.tables.lifts h) r'.height ∧
        r'.stock = stdVolume r'.volume (s.channels[barometer].figure 101325) r'.pressure
          (s.channels[temperatureChannel h].figure 1500) ∧
        (r'.high = true ↔ if r.high then l.high - l.hysteresis ≤ r'.height else l.high ≤ r'.height) ∧
        (r'.low = true ↔ if r.low then r'.height ≤ l.low + l.hysteresis else r'.height ≤ l.low) ∧
        (r'.top = true ↔ r.crownTop = ⟨true, true⟩ ∨
          if r.top then l.top - l.hysteresis ≤ r'.height else l.top ≤ r'.height) ∧
        (r'.bottom = true ↔ r.crownBottom = ⟨true, true⟩ ∨
          if r.bottom then r'.height ≤ l.bottom + l.hysteresis else r'.height ≤ l.bottom) ∧
        (r'.height ≤ l.landing → r'.heightStage = some 0) ∧
        (l.landing < r'.height → ls ≠ [] → (∀ x ∈ ls, 0 ≤ x.travel) →
          ∃ k, r'.heightStage = some k ∧ 1 ≤ k ∧ k ≤ ls.length ∧ r'.height ≤ rise k ∧
            ∀ j, 1 ≤ j → j < k → rise j < r'.height)) ∧
       (r'.usable = false → r'.height = r.height ∧ r'.volume = r.volume ∧ r'.stock = r.stock ∧ r'.estimated = true ∧
        r'.high = r.high ∧ r'.low = r.low ∧ r'.heightStage = none ∧
        (r'.top = true ↔ r.crownTop = ⟨true, true⟩) ∧ (r'.bottom = true ↔ r.crownBottom = ⟨true, true⟩)) ∧
       r'.switchStage = r.switchStage ∧ r'.pressureStage = r.pressureStage ∧ StageAndPressure s h r r') ∧
      (∀ g : HolderId, g ≠ h → t.holders[g] = s.holders[g])) ∧
  (∀ (h : HolderId) (raw : BitVec 16) (s : State), s.supply = true → planAwake s = true → s.tables.holderOn h = true →
    ∃ t, exec (.conversion (pressureChannel h) raw) s = .next t ∧
      (let c := t.channels[pressureChannel h]
       let ls := s.tables.lifts h
       let r := s.holders[h]
       let r' := t.holders[h]
       (c.usable = false → r'.pressureStage = none) ∧
       (∀ first rest, c.usable = true → ls = first :: rest →
        (2 * c.smoothed < first.pressure → r'.pressureStage = some 0) ∧
        (first.pressure ≤ 2 * c.smoothed → ∃ k x, r'.pressureStage = some (k + 1) ∧ ls[k]? = some x ∧
          ∀ j y, ls[j]? = some y → |c.smoothed - x.pressure| ≤ |c.smoothed - y.pressure| ∧
            (j < k → |c.smoothed - x.pressure| < |c.smoothed - y.pressure|))) ∧
       r'.heightStage = r.heightStage ∧ r'.switchStage = r.switchStage ∧ StageAndPressure t h r r' ∧
       r'.usable = r.usable ∧ r'.height = r.height ∧ r'.high = r.high ∧ r'.top = r.top ∧ r'.low = r.low ∧
       r'.bottom = r.bottom) ∧
      (∀ g : HolderId, g ≠ h → t.holders[g] = s.holders[g])) ∧
  (∀ (tb : Tables) (h : HolderId) (r : HolderRec),
    (let cups := r.cups.toList.take ((tb.lifts h).length - 1)
     ((∃ p ∈ cups, p.valid = false) → judgedSwitchStage tb h r = none) ∧
     (∀ up down : List Pair, cups = up ++ down → (∀ p ∈ up, p = ⟨true, true⟩) → (∀ p ∈ down, p = ⟨false, true⟩) →
        judgedSwitchStage tb h r = some (1 + up.length)) ∧
     (∀ (i j : Nat) (p q : Pair), i < j → cups[i]? = some p → cups[j]? = some q → p.active = false → q.active = true →
        judgedSwitchStage tb h r = none)))

/-- A scan cycle's end. Each return line is judged by its quiet reading and each contact debounced by R18: a cycle that
does not qualify clears the candidate, and a debounced state changes at the second of two qualified cycles that differ
from it alike. From the derivation on the cycle reaches nothing outside the yard's blocks but the scanner's own
records. -/
def Obligations.ScanCycleDebounces : Prop :=
  ∀ (made : BitVec 64) (quiet : BitVec 4) (order : BlockOrder) (s : State), s.supply = true →
    ∃ t, exec (.scanCycleEnd made quiet order) s = .next t ∧
      (∀ i : ReturnId,
        let r := s.returns[i]
        let q := quiet.getLsbD i.val
        t.returns[i] = if r.stuck then ⟨q || !r.run, !q && !r.run⟩ else ⟨q && r.run, q && !r.run⟩) ∧
      (∀ k : PointId,
        let p := s.points[k]
        let p' := t.points[k]
        let reading : Reading := if made.getLsbD k.val then .made else .broken
        let qualifies := quiet.getLsbD (k.val % 4) = false
        p'.reading = reading ∧
        p'.debounced = (if qualifies ∧ p.debounced ≠ some reading ∧ p.candidate = some reading then some reading
          else p.debounced) ∧
        p'.candidate = (if qualifies ∧ p.debounced ≠ some reading ∧ p.candidate ≠ some reading then some reading
          else none) ∧
        (p'.valid = true ↔ t.returns[returnOf k].stuck = false ∧ p'.debounced ≠ none) ∧
        (p'.active = true ↔
          p'.debounced = some (if s.tables.contact[k].polarity = 1 then Reading.broken else Reading.made)) ∧
        p'.delivered = (if s.tables.contact[k].watches = .nothing then p.delivered else ⟨p'.active, p'.valid⟩)) ∧
      (planAwake s = true →
        SameOutsideYard { s with returns := t.returns, points := t.points
                                 startUp := { s.startUp with scans := min 2 (s.startUp.scans + 1)
                                                             cycleTimer := some 0 } } t)

/-! ### Holders and valves -/

/-- A disagreement timer that reaches its dwell stops and sets STAGE-DISAGREE (R33). That the expiry
of a stopped one changes nothing is the model's own arrangement (log entry 1). -/
def Obligations.DwellExpirySetsDisagree : Prop :=
  (∀ (h : HolderId) (s : State), s.supply = true → s.tables.holderOn h = true →
    s.holders[h].disagreeTimer.isSome = true →
    ∃ t, exec (.stageDwellExpiry h) s = .next t ∧
      t.holders = s.holders.set h { s.holders[h] with disagreeTimer := none, disagree := true } ∧
      (∀ g : HolderId, t.controls[g].control = s.controls[g].control) ∧ SameOutsideYard s t) ∧
  (∀ (h : HolderId) (s : State), s.holders[h].disagreeTimer = none → s.plan.inbox = [] →
    exec (.stageDwellExpiry h) s = .next s)

/-- A travel timer that reaches its timeout stops the drive and leaves the valve in FAULT with cause TIMEOUT, its last
travel time unchanged, while the plan is busy with other valves and no hand order waits (R54). That the timeout of a
valve at rest changes nothing is the model's own arrangement (log entry 1). -/
def Obligations.TravelTimeoutFaults : Prop :=
  (∀ (v : ValveId) (s : State), s.supply = true → planAwake s = true → PlanBusyElsewhere v s →
    s.tables.valveOn v = true → (s.valves[v].state = .opening ∨ s.valves[v].state = .closing) →
    s.controls[ownerOf v].queue = [] →
    ∃ t, exec (.valveTravelTimeout v) s = .next t ∧
      t.valves = s.valves.set v { s.valves[v] with state := .fault, drive := .undriven, timer := none
                                                   cause := .timeout, planAwaits := false } ∧
      t.holders = s.holders ∧ t.controls = s.controls ∧ t.plan.record = s.plan.record ∧
      t.plan.freeze = s.plan.freeze ∧ SameOutsideYard s t) ∧
  (∀ (v : ValveId) (s : State), s.valves[v].state ≠ .opening → s.valves[v].state ≠ .closing → s.plan.inbox = [] →
    exec (.valveTravelTimeout v) s = .next s)

/-- What an order does to the valve it names, at rest (R52) and travelling (R56): driven afresh, completed at once,
joined, reversed or refused; it touches no other valve. -/
def Obligations.OrdersToValves : Prop :=
  ∀ (v : ValveId) (d : Direction) (o : Originator) (s : State),
    (let x := s.valves[v]
     let t := (carryOut v d o s).1
     (x.state = d.rest → t.valves = s.valves.set v { x with originator := o }) ∧
     ((x.state = .closed ∨ x.state = .opened) → x.state ≠ d.rest → t.valves = s.valves.set v (x.orderedFrom d o)) ∧
     (x.state = d.travel → t.valves = s.valves.set v
        { x with originator := if o = .protection then .protection else x.originator
                 planAwaits := x.planAwaits || decide (o = .plan) }) ∧
     ((x.state = .opening ∨ x.state = .closing) → x.state ≠ d.travel → x.originator ≠ .protection →
        t.valves = s.valves.set v (x.orderedFrom d o)) ∧
     ((x.state = .opening ∨ x.state = .closing) → x.state ≠ d.travel → x.originator = .protection →
        t.valves = s.valves))

/-- Valves at contact events, under protection and at the plan's orders. A cycle end that delivers one configured
valve's contacts alone, with the plan busy with other valves and no hand order waiting, judges that valve (R51, R53,
R55, R72): an arrival takes its time and tells VALVE-SLOW past the threshold, and an entry to FAULT tells VALVE-FAULT. A
TOP or BOTTOM that a height conversion sets closes the holder's inlet or outlet whatever its control (R66) and flushes
its queue, with the count and QUEUE-FLUSHED (R67). An order to a FAULT valve is carried out by R57; that one completed
there at once records its originator is how the model reads it (log entry 10), and that a CONTRADICTORY valve keeps its
former originator its choice (log entry 60). A PLAN order is refused for a valve not
configured and for an open order at its holder's limit (R60). -/
def Obligations.ValvesAtContactsAndProtection : Prop :=
  (∀ (v : ValveId) (made : BitVec 64) (quiet : BitVec 4) (order : BlockOrder) (s : State), s.supply = true →
    planAwake s = true → PlanBusyElsewhere v s → s.tables.valveOn v = true → s.controls[ownerOf v].queue = [] →
    (s.valves[v].timer.isSome = true ↔ s.valves[v].state = .opening ∨ s.valves[v].state = .closing) →
    (let cycle := scanCycle made quiet s
     let x : Valve := (takeValvePairs cycle.2 cycle.1).valves[v]
     let j := judgeValve v (takeValvePairs cycle.2 cycle.1)
     cycle.2 ≠ [] → (∀ d ∈ cycle.2, d.use = .valveOpen v ∨ d.use = .valveShut v) →
     (∀ d ∈ cycle.2, d.use = .valveOpen v → (∀ d' ∈ cycle.2, d'.use = .valveOpen v → d' = d) → x.openContact = d.left) ∧
     (∀ d ∈ cycle.2, d.use = .valveShut v → (∀ d' ∈ cycle.2, d'.use = .valveShut v → d' = d) → x.shutContact = d.left) ∧
     { x with openContact := s.valves[v].openContact, shutContact := s.valves[v].shutContact } = s.valves[v] ∧
     (x.cause = .noCause → x.state ≠ .fault → x.judged.state = .fault → j.alarms.Told .valveFault (number v)) ∧
     (x.judged.lastTravel ≠ x.lastTravel → ∀ n, x.judged.lastTravel = some n →
      s.tables.valve[v].slow < (n : Int) → j.alarms.Told .valveSlow (number v)) ∧
     ∃ t, exec (.scanCycleEnd made quiet order) s = .next t ∧ t.valves = s.valves.set v x.judged ∧
      t.holders = s.holders ∧ t.controls = s.controls ∧ t.plan.record = s.plan.record ∧
      t.plan.freeze = s.plan.freeze)) ∧
  (∀ (h : HolderId) (raw : BitVec 16) (s : State), s.supply = true → planAwake s = true → s.tables.holderOn h = true →
    PlanBusyElsewhere (inletOf h) s → PlanBusyElsewhere (outletOf h) s →
    ∃ t, exec (.conversion (heightChannel h) raw) s = .next t ∧
      (∀ v : ValveId, s.tables.valveOn v = true → ownerOf v = h → limitSets s t v →
        t.valves[v] = s.valves[v].shutByProtection) ∧
      (∀ v : ValveId, (s.tables.valveOn v = false ∨ ownerOf v ≠ h ∨ ¬limitSets s t v) → t.valves[v] = s.valves[v]) ∧
      (limitSets s t (inletOf h) ∨ limitSets s t (outletOf h) → t.controls = s.controls.set h
        { s.controls[h] with queue := [], lastFlush := s.controls[h].queue.length }) ∧
      (¬limitSets s t (inletOf h) → ¬limitSets s t (outletOf h) → t.controls = s.controls)) ∧
  (∀ (h : HolderId) (top bottom : Bool) (s : State), (top = true ∨ bottom = true) → s.controls[h].queue ≠ [] →
    (protectHolder h top bottom s).alarms.Told .queueFlushed (number h)) ∧
  (∀ (v : ValveId) (d : Direction) (o : Originator) (s : State), s.valves[v].state = .fault →
    (let x := s.valves[v]
     let t := (carryOut v d o s).1
     (x.position = d.limit → t.valves = s.valves.set v
        { x with state := d.rest, drive := .undriven, timer := none, cause := .noCause, originator := o
                 confirmed := x.confirmed && decide (d = .toOpen) }) ∧
     (x.position = .contradictory → t.valves = s.valves.set v { x with cause := .contradiction }) ∧
     (x.position ≠ d.limit → x.position ≠ .contradictory → t.valves = s.valves.set v (x.orderedFrom d o)))) ∧
  (∀ (v : ValveId) (d : Direction) (s : State),
    (let limit : Bool := if isInlet v then s.holders[ownerOf v].top else s.holders[ownerOf v].bottom
     ((s.tables.valveOn v = false ∨ (d = .toOpen ∧ limit = true)) →
      planOrder v d s = s.setPlan { s.plan with inbox := s.plan.inbox ++ [.ended v .refused (stateOf s v)] }) ∧
     (s.tables.valveOn v = true → (d = .toClose ∨ limit = false) → s.controls[ownerOf v].queue = [] →
      planOrder v d s = (carryOut v d .plan s).1)))

/-- A gap timer that expires with the to-holder still eligible and the start conditions holding orders the new valve
open and moves the record to OPEN-NEW (R86). Where either fails the record ends with the role none (a new valve opened
by hand in GAP notwithstanding: log entry 52) and the freeze lifted, and no valve moves; what the plan then decides
follows in the same event. That the expiry of a stopped timer changes nothing is the model's own arrangement (log entry
1). -/
def Obligations.GapExpiryOpensTheNewValve : Prop :=
  (∀ (c : Changeover) (h : HolderId) (s : State), s.supply = true → planAwake s = true → s.plan.record = some c →
    c.phase = .gap → c.gap.isSome = true → c.new = some h → eligibleFor s c.kind h = true →
    startAllowed s c.kind c.old c.new true = true → s.tables.valveOn (c.kind.valve h) = true →
    s.valves[c.kind.valve h].state = .closed → s.plan.settle = none → s.plan.inbox = [] →
    ∃ t, exec .gapTimerExpiry s = .next t ∧
      t.valves = s.valves.set (c.kind.valve h) (s.valves[c.kind.valve h].orderedFrom .toOpen .plan) ∧
      t.plan.record = some { c with phase := .openNew, gap := none } ∧ t.plan.freeze = s.plan.freeze ∧
      t.holders = s.holders ∧ t.controls = s.controls ∧ SameOutsideYard s t) ∧
  (∀ (c : Changeover) (h : HolderId) (s : State), s.supply = true → planAwake s = true → s.plan.record = some c →
    c.phase = .gap → c.gap.isSome = true → c.new = some h →
    (eligibleFor s c.kind h = false ∨ startAllowed s c.kind c.old c.new true = false) → s.plan.settle = none →
    s.plan.inbox = [] →
    (let u := advance true [] s
     u.plan.record = none ∧ u.plan.freeze = false ∧ u.valves = s.valves ∧ u.holders = s.holders ∧
      u.controls = s.controls ∧ (c.kind = .send → u.plan.send = none) ∧
      (c.kind = .fill → (c.involves s.tables.isStore = true → u.plan.fill = none) ∧
        (c.involves s.tables.isRelief = true → u.plan.reliefFill = false))) ∧
    ∃ t, exec .gapTimerExpiry s = .next t ∧ t.holders = s.holders ∧ SameOutsideYard s t ∧
      (∀ g : HolderId, t.controls[g].control = s.controls[g].control)) ∧
  (∀ s : State, (∀ c, s.plan.record = some c → c.gap = none) → exec .gapTimerExpiry s = .next s)

/-- What the plan decides and how a changeover runs. Eligibility (R76); the start conditions (R81) and the method (R82);
the send decision (R79), the record it starts and the order given with it (R83); the fill decision by the five cases of
R80. A delivery in OPEN-NEW (R84) or CLOSE-OLD (R85), the new valve becoming OPEN otherwise and the freeze (R87, R88), a
fault and the role in STUCK (R89), and its end (R90). SEND-SHORT as it is judged in RUN (R93). The
start conditions as the gap's expiry takes them, the from-holder's valve counted among those that must be CLOSED (R86).
The roles that follow their valves where no record governs them (R78, RoleFollows): of two holders whose valves become
OPEN at once the lower-numbered takes the role (log entry 40), and both the loss and the taking are judged by the state
that a valve still holds (log entry 50). A SETTLE record loses its CLOSED valves and ends with the last (R95), by the
states the valves hold when the plan judges (log entry 51). That a record takes several deliveries of one event in the
Valve Unit's order is the model's choice (log entry 61); each is stated here by itself. -/
def Obligations.PlanDecisionsAndPhases : Prop :=
  (∀ (h : HolderId) (s : State),
    (eligibleSend s h = true ↔ s.tables.holderOn h = true ∧ s.controls[h].control = .auto ∧ s.holders[h].low = false ∧
      s.holders[h].bottom = false ∧ stateOf s (outletOf h) ≠ .fault ∧ s.holders[h].usable = true) ∧
    (eligibleFill s h = true ↔ s.tables.holderOn h = true ∧ s.controls[h].control = .auto ∧ s.holders[h].high = false ∧
      s.holders[h].top = false ∧ stateOf s (inletOf h) ≠ .fault ∧ s.holders[h].usable = true)) ∧
  (∀ (k : RoleKind) (old new : Option HolderId) (s : State),
    (∀ h, old = some h ∨ new = some h → s.tables.holderOn h = true) →
    (startAllowed s k old new false = true ↔
      (∀ h : HolderId, (k = .send → s.tables.holderOn h = true) → (k = .fill → s.tables.isStore h = true) →
        stateOf s (k.valve h) ≠ .fault ∧ (old ≠ some h → new ≠ some h → stateOf s (k.valve h) = .closed)) ∧
      (∀ h : HolderId, old = some h ∨ new = some h → stateOf s (k.valve h) ≠ .fault)) ∧
    (startAllowed s k old new true = true ↔
      (∀ h : HolderId, (k = .send → s.tables.holderOn h = true) → (k = .fill → s.tables.isStore h = true) →
        stateOf s (k.valve h) ≠ .fault ∧ (new ≠ some h → stateOf s (k.valve h) = .closed)) ∧
      (∀ h : HolderId, old = some h ∨ new = some h → stateOf s (k.valve h) ≠ .fault) ∧
      (∀ h : HolderId, old = some h → stateOf s (k.valve h) = .closed)) ∧
    (methodOf s k old new = .mbb ↔ ∃ a b, old = some a ∧ new = some b ∧
      ((k = .fill ∧ s.tables.isStore a = true ∧ s.tables.isRelief b = true) ∨
        (stateOf s (k.valve a) = .opened ∧ s.channels[pressureChannel a].usable = true ∧
          s.channels[pressureChannel b].usable = true ∧
          |s.holders[a].pressure - s.holders[b].pressure| ≤ s.tables.yard.tolerance ∧
          s.holders[a].disagree = false ∧ s.holders[b].disagree = false)))) ∧
  (∀ s : State, s.part = .run → s.plan.record = none → s.plan.settle = none →
    (let t := sendDecision s
     let candidate (c : HolderId) : Prop :=
      (s.tables.relief = some c ∧ eligibleSend s c = true) ∨
        ((∀ r, s.tables.relief = some r → eligibleSend s r = false) ∧
          s.retained.sendOrder.find? (eligibleSend s) = some c)
     let wanted (c : HolderId) : Prop := ∀ h, s.plan.send = some h →
      s.controls[h].control = .auto ∧ c ≠ h ∧
        (eligibleSend s h = false ∨ s.tables.isRelief c = true ∨ s.plan.sendMark = true)
     t.plan.sendMark = false ∧
     (∀ c, candidate c → wanted c → startAllowed s .send s.plan.send (some c) false = true →
      t.plan.record = some (startedRecord s .send s.plan.send (some c)) ∧
      t.plan.freeze = (s.plan.freeze || decide (s.plan.send ≠ none ∧ methodOf s .send s.plan.send (some c) = .bbm)) ∧
      t.valves = (firstOrder s .send s.plan.send (some c)).valves) ∧
     ((∀ c, candidate c → ¬(wanted c ∧ startAllowed s .send s.plan.send (some c) false = true)) →
      t.plan = { s.plan with sendMark := false } ∧ t.valves = s.valves ∧
      decideRoles s = fillDecision t) ∧
     (t.plan.record ≠ none → decideRoles s = t))) ∧
  (∀ s : State, s.plan.record = none →
    (let t := fillDecision s
     let store := s.retained.fillOrder.find? fun h => s.tables.isStore h && eligibleFill s h
     let fit : Option HolderId := s.tables.relief.filter (eligibleFill s)
     let auto (h : Option HolderId) : Prop := ∃ g, h = some g ∧ s.controls[g].control = .auto
     let starts (old new : Option HolderId) : Prop :=
      if startAllowed s .fill old new false then
        t.plan.record = some (startedRecord s .fill old new) ∧ t.valves = (firstOrder s .fill old new).valves
      else t.plan.record = none ∧ t.valves = s.valves
     let nothing : Prop := t.plan.record = none ∧ t.valves = s.valves
     t.plan.fillMark = false ∧ t.plan.freeze = s.plan.freeze ∧
     (∀ f, s.plan.fill = some f →
      (s.plan.reliefFill = true ∧ auto s.tables.relief → starts s.tables.relief none) ∧
      (¬(s.plan.reliefFill = true ∧ auto s.tables.relief) →
        (eligibleFill s f = true →
          (∀ c, store = some c → s.plan.fillMark = true → c ≠ f → starts (some f) (some c)) ∧
          (s.plan.fillMark = false ∨ store = none ∨ store = some f → nothing)) ∧
        (eligibleFill s f = false →
          (∀ c, store = some c → starts (some f) (some c)) ∧
          (∀ r, store = none → fit = some r → starts (some f) (some r)) ∧
          (store = none → fit = none →
            (auto (some f) → starts (some f) none) ∧ (¬auto (some f) → nothing))))) ∧
     (s.plan.fill = none → s.plan.reliefFill = false →
      (∀ c, store = some c → starts none (some c)) ∧ (∀ r, store = none → fit = some r → starts none (some r)) ∧
      (store = none → fit = none → nothing)) ∧
     (s.plan.fill = none → s.plan.reliefFill = true →
      (∀ c, store = some c → starts s.tables.relief (some c)) ∧
      (store = none → (fit = none ∧ auto s.tables.relief → starts s.tables.relief none) ∧
        (¬(fit = none ∧ auto s.tables.relief) → nothing))))) ∧
  (∀ (c : Changeover) (v : ValveId) (r : EndResult) (s : State), s.plan.record = some c → s.plan.settle = none →
    (let after := stateOf s v
     let t := advance false [.ended v r after] s
     let old : Option HolderId := if roleValveIn s c.kind c.old .closed then none else c.old
     let stuck : Prop := t.plan.record = some { c with phase := .stuck, awaited := [v], gap := none } ∧
      t.plan.freeze = false ∧ t.valves = s.valves ∧
      roleHeld s t c (if roleValveIn s c.kind c.new .opened then c.new
        else if roleValveIn s c.kind c.old .opened then c.old else none)
     let ended (h : Option HolderId) : Prop :=
      t.plan.record = none ∧ t.plan.freeze = false ∧ t.valves = s.valves ∧ roleHeld s t c h
     (c.phase = .openNew → c.newValve = some v → c.awaited = [] → c.taken = false → (r = .reversed → after ≠ .opening) →
      (((r = .arrived ∨ r = .present) ∧ after = .opened) →
        (∀ h, c.method = .mbb → c.old = some h → s.tables.valveOn (c.kind.valve h) = true →
          s.controls[h].queue = [] →
          t.plan.record = some { c with phase := .closeOld, taken := true } ∧ roleHeld s t c c.new ∧
          t.valves = (carryOut (c.kind.valve h) .toClose .plan s).1.valves) ∧
        (c.method = .bbm ∨ c.old = none → ended c.new)) ∧
      (r = .refused → ¬((r = .arrived ∨ r = .present) ∧ after = .opened) →
        (c.method = .mbb → ended old) ∧ (c.method = .bbm → ended none)) ∧
      (r ≠ .refused → ¬((r = .arrived ∨ r = .present) ∧ after = .opened) → after ≠ .closed → stuck)) ∧
     (c.phase = .closeOld → c.oldValve = some v → c.awaited = [] → (r = .reversed → after ≠ .closing) →
      (((r = .arrived ∨ r = .present) ∧ after = .closed) →
        (c.method = .mbb ∨ c.new = none → ended (if c.taken then c.new else none)) ∧
        (c.method = .bbm → c.new ≠ none → s.tables.yard.gapTime ≠ 0 →
          t.plan.record = some { c with phase := .gap, gap := some 0 } ∧ t.plan.freeze = s.plan.freeze ∧
          t.valves = s.valves ∧ roleHeld s t c (if c.taken then c.new else none))) ∧
      (¬((r = .arrived ∨ r = .present) ∧ after = .closed) → after ≠ .closed → stuck)))) ∧
  (∀ (c : Changeover) (v : ValveId) (s : State), s.plan.record = some c → s.plan.settle = none →
    (let t := advance false [.changed v (stateOf s v)] s
     (c.phase ≠ .stuck → c.newValve = some v → stateOf s v = .opened →
      t.plan.record = some { c with taken := true } ∧ roleHeld s t c c.new ∧
      t.plan.freeze = (s.plan.freeze && decide (c.kind = .fill))) ∧
     (c.phase ≠ .stuck → c.awaited = [] → (c.oldValve = some v ∨ c.newValve = some v) → stateOf s v = .fault →
      t.plan.record = some { c with phase := .stuck, awaited := [v], gap := none } ∧ t.plan.freeze = false ∧
      t.alarms.Told .changeoverStuck 0) ∧
     (c.phase = .stuck → stateOf s v ≠ .fault →
      roleHeld s t c (if roleValveIn s c.kind c.new .opened then c.new
        else if roleValveIn s c.kind c.old .opened then c.old else none) ∧
      ((∀ w ∈ c.awaited, stateOf s w = .closed) → t.plan.record = none ∧ t.plan.freeze = false) ∧
      ((∃ w ∈ c.awaited, stateOf s w ≠ .closed) → t.plan.record = some c)))) ∧
  (∀ (notes : List PlanNote) (s : State),
    (let t := followRoles notes s
     let governed (f : HolderId → Bool) : Prop :=
      ∃ c, s.plan.record = some c ∧ c.kind = .fill ∧ ∃ h, (c.old = some h ∨ c.new = some h) ∧ f h = true
     ((∀ c, s.plan.record = some c → c.kind = .fill) →
      RoleFollows s notes .send s.tables.holderOn s.plan.send t.plan.send) ∧
     (∀ c, s.plan.record = some c → c.kind = .send → t.plan.send = s.plan.send) ∧
     (¬governed s.tables.isStore → RoleFollows s notes .fill s.tables.isStore s.plan.fill t.plan.fill) ∧
     (governed s.tables.isStore → t.plan.fill = s.plan.fill) ∧
     (∀ r, s.tables.relief = some r → ¬governed s.tables.isRelief →
      (BecomesOpen s notes (inletOf r) → t.plan.reliefFill = true) ∧
      (¬BecomesOpen s notes (inletOf r) →
        (t.plan.reliefFill = true ↔ s.plan.reliefFill = true ∧ stateOf s (inletOf r) ≠ .closed))) ∧
     (governed s.tables.isRelief → t.plan.reliefFill = s.plan.reliefFill) ∧
     t = { s with plan := { s.plan with
      send := t.plan.send, fill := t.plan.fill, reliefFill := t.plan.reliefFill } })) ∧
  (∀ s : State,
    (s.plan.settle = none → advanceSettle s = s) ∧
    (∀ l, s.plan.settle = some l →
      ((∀ v ∈ l, stateOf s v = .closed) → advanceSettle s = { s with plan := { s.plan with settle := none } }) ∧
      ((∃ v ∈ l, stateOf s v ≠ .closed) → advanceSettle s = { s with plan := { s.plan with
        settle := some (l.filter fun v => decide (stateOf s v ≠ .closed)) } }))) ∧
  (∀ s : State,
    (s.part = .run → ((judgeSendShort s).plan.sendShort = true ↔
      (s.plan.send = none ∧ ∀ c, s.plan.record = some c → c.kind = .fill ∨ c.phase = .stuck) ∨
      (∃ h, s.plan.send = some h ∧ s.holders[h].low = true ∧ ∀ g : HolderId, g ≠ h → eligibleSend s g = false))) ∧
    (s.part = .run → s.plan.sendShort = false → (judgeSendShort s).plan.sendShort = true →
      (judgeSendShort s).alarms.Told .sendShort 0) ∧
    (s.part ≠ .run → judgeSendShort s = s))

/-- VALVE-CONFIRM (R59): refused for a number outside 1 to 8 and for a valve that is not configured or not in FAULT;
otherwise the valve is CLOSED, confirmed, with originator MANUAL and no fault cause. -/
def Obligations.ValveConfirm : Prop :=
  (∀ (tag : Byte) (n : Nat) (s : State), Reaches false s → (n < 1 ∨ 8 < n) →
    exec (.valveConfirm tag n) s = .next (answered 0x29 tag (.rejected .badField (some ⟨0, 0, 1⟩)) s)) ∧
  (∀ (tag : Byte) (v : ValveId) (s : State), Reaches false s →
    (s.tables.valveOn v = false ∨ s.valves[v].state ≠ .fault) →
    exec (.valveConfirm tag (number v)) s = .next (answered 0x29 tag (.rejected .wrongState none) s)) ∧
  (∀ (tag : Byte) (v : ValveId) (s : State), Reaches false s → s.part = .run → PlanBusyElsewhere v s →
    s.tables.valveOn v = true → s.valves[v].state = .fault →
    ∃ t, exec (.valveConfirm tag (number v)) s = .next t ∧
      t.valves = s.valves.set v { s.valves[v] with state := .closed, drive := .undriven, timer := none
                                                   cause := .noCause, originator := .manual, confirmed := true } ∧
      t.holders = s.holders ∧ t.controls = s.controls ∧
      SameOutsideYard (answered 0x29 tag (.accepted []) s) t)

/-- HOLDER-HOLD and HOLDER-FREE (R61, R62): refused for a number outside 1 to 4 and for a holder that is not configured;
otherwise the holder is MANUAL, or, with an empty queue and no valve travelling, AUTO. No other holder's control
changes, and a request that finds the control as asked changes nothing. -/
def Obligations.HolderHoldAndFree : Prop :=
  (∀ (tag : Byte) (n : Nat) (s : State), Reaches false s → (n < 1 ∨ 4 < n) →
    exec (.holderHold tag n) s = .next (answered 0x26 tag (.rejected .badField (some ⟨0, 0, 1⟩)) s) ∧
    exec (.holderFree tag n) s = .next (answered 0x27 tag (.rejected .badField (some ⟨0, 0, 1⟩)) s)) ∧
  (∀ (tag : Byte) (h : HolderId) (s : State), Reaches false s → s.tables.holderOn h = false →
    exec (.holderHold tag (number h)) s = .next (answered 0x26 tag (.rejected .wrongState none) s) ∧
    exec (.holderFree tag (number h)) s = .next (answered 0x27 tag (.rejected .wrongState none) s)) ∧
  (∀ (tag : Byte) (h : HolderId) (s : State), Reaches false s → s.tables.holderOn h = true →
    (s.controls[h].control = .manual →
      exec (.holderHold tag (number h)) s = .next (answered 0x26 tag (.accepted []) s)) ∧
    (s.controls[h].control = .auto →
      exec (.holderFree tag (number h)) s = .next (answered 0x27 tag (.accepted []) s)) ∧
    (s.controls[h].control = .auto →
      ∃ t, exec (.holderHold tag (number h)) s = .next t ∧ t.controls[h].control = .manual ∧
        (∀ g : HolderId, g ≠ h → t.controls[g].control = s.controls[g].control) ∧ t.holders = s.holders ∧
        SameOutsideYard (answered 0x26 tag (.accepted []) s) t) ∧
    (s.controls[h].control = .manual →
      (s.controls[h].queue ≠ [] ∨ (stateOf s (inletOf h)).travelling = true ∨
        (stateOf s (outletOf h)).travelling = true) →
      exec (.holderFree tag (number h)) s = .next (answered 0x27 tag (.rejected .busy none) s)) ∧
    (s.controls[h].control = .manual → s.controls[h].queue = [] → (stateOf s (inletOf h)).travelling = false →
      (stateOf s (outletOf h)).travelling = false →
      ∃ t, exec (.holderFree tag (number h)) s = .next t ∧ t.controls[h].control = .auto ∧
        (∀ g : HolderId, g ≠ h → t.controls[g].control = s.controls[g].control) ∧ t.holders = s.holders ∧
        SameOutsideYard (answered 0x27 tag (.accepted []) s) t))

/-- HOLDER-ORDER's refusals and its waiting entries (R63): BAD-FIELD, WRONG-STATE, FULL, and an order behind others
joined to the tail with its position. -/
def Obligations.HolderOrderIsQueued : Prop :=
  (∀ (tag : Byte) (n o : Nat) (s : State), Reaches false s → (n < 1 ∨ 4 < n) →
    exec (.holderOrder tag n o) s = .next (answered 0x28 tag (.rejected .badField (some ⟨0, 0, 1⟩)) s)) ∧
  (∀ (tag : Byte) (h : HolderId) (o : Nat) (s : State), Reaches false s → 3 < o →
    exec (.holderOrder tag (number h) o) s = .next (answered 0x28 tag (.rejected .badField (some ⟨0, 0, 2⟩)) s)) ∧
  (∀ (tag : Byte) (h : HolderId) (o : Nat) (order : HandOrder) (s : State), Reaches false s →
    handOrder o = some order →
    ((s.tables.holderOn h = false ∨ s.controls[h].control = .auto) →
      exec (.holderOrder tag (number h) o) s = .next (answered 0x28 tag (.rejected .wrongState none) s)) ∧
    (s.tables.holderOn h = true → s.controls[h].control = .manual →
      (8 ≤ s.controls[h].queue.length →
        exec (.holderOrder tag (number h) o) s = .next (answered 0x28 tag (.rejected .full none) s)) ∧
      (0 < s.controls[h].queue.length → s.controls[h].queue.length < 8 →
        exec (.holderOrder tag (number h) o) s = .next
          (answered 0x28 tag (.accepted (signedBytes 4 ((s.controls[h].queue.length + 1 : Nat) : Int)))
            { s with controls := (s.controls.set h
                { s.controls[h] with queue := s.controls[h].queue ++ [⟨order, false⟩] }) }))))

/-- HOLDER-ORDER at an empty queue (R63 to R65). While its valve travels under PLAN or PROTECTION it waits at the head,
position 1. Otherwise it comes to run: refused by an interlock, with its alarm; completed at once, position 0, where the
valve rests at the ordered end; joined to a travel by hand the same way; or driven by hand, afresh from rest or from
FAULT (R57) or turned about from a travel by hand, its entry running at the head. On a valve in FAULT at the ordered
stop it completes at once and the fault ends, the originator the order's (log entry 10). On a CONTRADICTORY one it ends
at once with FAULT: that it is answered as one completed at once, and that the originator stays, are the model's choices
(log entries 36 and 60). -/
def Obligations.HolderOrderComesToRun : Prop :=
  ∀ (tag : Byte) (h : HolderId) (o : Nat) (order : HandOrder) (s : State), Reaches false s →
    handOrder o = some order → s.tables.holderOn h = true → s.controls[h].control = .manual →
    s.controls[h].queue = [] → s.plan.inbox = [] →
    (let v := order.valve h
     let d := order.direction
     let x := s.valves[v]
     let travels : Prop := x.state = .opening ∨ x.state = .closing
     let queued (running : Bool) := s.controls.set h { s.controls[h] with queue := [⟨order, running⟩] }
     let taken (position : Int) (t : State) := answered 0x28 tag (.accepted (signedBytes 4 position)) t
     (travels → x.originator ≠ .manual →
      exec (.holderOrder tag (number h) o) s = .next (taken 1 { s with controls := queued false })) ∧
     (¬(travels ∧ x.originator ≠ .manual) → ∀ i, interlockOf s h order = some i →
      exec (.holderOrder tag (number h) o) s = .next
        (answered 0x28 tag (.rejected .interlock none)
          (momentAlarm .interlock (number h)
            { s with controls := s.controls.set h { s.controls[h] with lastInterlock := some (order, i) } }))) ∧
     (interlockOf s h order = none →
      (x.state = d.rest → exec (.holderOrder tag (number h) o) s = .next
        (taken 0 { s with valves := s.valves.set v { x with originator := .manual } })) ∧
      (x.state = d.travel → x.originator = .manual → exec (.holderOrder tag (number h) o) s = .next
        (taken 1 { s with controls := queued true })) ∧
      (x.state = .fault → x.position = .contradictory → exec (.holderOrder tag (number h) o) s = .next
        (taken 0 { s with valves := s.valves.set v { x with cause := .contradiction } })) ∧
      (s.part = .run → PlanBusyElsewhere v s →
        (x.state = .fault → x.position = d.limit →
          ∃ t, exec (.holderOrder tag (number h) o) s = .next t ∧
            t.valves = s.valves.set v
              { x with state := d.rest, drive := .undriven, timer := none, cause := .noCause, originator := .manual
                       confirmed := x.confirmed && decide (d ≠ .toClose) } ∧
            t.controls = s.controls ∧ t.holders = s.holders ∧ SameOutsideYard (taken 0 s) t) ∧
        ((x.state = .closed ∨ x.state = .opened) ∧ x.state ≠ d.rest ∨
            travels ∧ x.state ≠ d.travel ∧ x.originator = .manual ∨
            x.state = .fault ∧ x.position ≠ d.limit ∧ x.position ≠ .contradictory →
          ∃ t, exec (.holderOrder tag (number h) o) s = .next t ∧
            t.valves = s.valves.set v (x.orderedFrom d .manual) ∧ t.controls = queued true ∧ t.holders = s.holders ∧
            SameOutsideYard (taken 1 s) t))))

/-- The interlocks (R64), each answer exactly where it is given: an open outlet is OUTLET-IN-USE while another
configured outlet is not CLOSED, AT-BOTTOM where BOTTOM alone stands, and passes otherwise; an open inlet of a STORE
holder is INLET-IN-USE while another configured STORE inlet is not CLOSED, any open inlet AT-TOP where TOP alone stands,
and it passes otherwise; a close order passes. -/
def Obligations.InterlocksRefuse : Prop :=
  ∀ (h : HolderId) (s : State),
    (let outletBusy : Prop := ∃ g : HolderId, g ≠ h ∧ s.tables.holderOn g = true ∧ stateOf s (outletOf g) ≠ .closed
     let inletBusy : Prop := s.tables.isStore h = true ∧
      ∃ g : HolderId, g ≠ h ∧ s.tables.isStore g = true ∧ stateOf s (inletOf g) ≠ .closed
     interlockOf s h .closeInlet = none ∧ interlockOf s h .closeOutlet = none ∧
     (interlockOf s h .openOutlet = some .outletInUse ↔ outletBusy) ∧
     (interlockOf s h .openOutlet = some .atBottom ↔ ¬outletBusy ∧ s.holders[h].bottom = true) ∧
     (interlockOf s h .openOutlet = none ↔ ¬outletBusy ∧ s.holders[h].bottom = false) ∧
     (interlockOf s h .openInlet = some .inletInUse ↔ inletBusy) ∧
     (interlockOf s h .openInlet = some .atTop ↔ ¬inletBusy ∧ s.holders[h].top = true) ∧
     (interlockOf s h .openInlet = none ↔ ¬inletBusy ∧ s.holders[h].top = false))

/-- PLAN-SET (R75). Each list holds 1 to 4 numbers of holders, all different, and the FILL list none of a RELIEF holder;
a fault is refused with BAD-FIELD, a length at the list's count and the rest at the entry, a repeat at its second
occurrence. The counts and entries of the two lists are fields in their order (log entry 14), and of several faults the
first in that order is named (log entry 38); a RELIEF holder is a configured one (log entry 37). Otherwise both orders
are replaced and both marks set, and the plan reconsiders, which stays inside the yard; with a record standing the marks
stay set. -/
def Obligations.PlanSetReplacesBothOrders : Prop :=
  (∀ (tag : Byte) (fill send : List Nat) (s : State), Reaches false s →
    (let bad (field : Nat) : Host.Outcome State Fault Refusal :=
      .next (answered 0x25 tag (.rejected .badField (some ⟨0, 0, field⟩)) s)
     let run := exec (.planSet tag fill send) s
     let holds (banned : Nat → Prop) (seen : List Nat) (n : Nat) : Prop := 1 ≤ n ∧ n ≤ 4 ∧ n ∉ seen ∧ ¬banned n
     let relief (n : Nat) : Prop := ∃ h : HolderId, n = number h ∧ s.tables.isRelief h = true
     let sound (banned : Nat → Prop) (l : List Nat) : Prop :=
      1 ≤ l.length ∧ l.length ≤ 4 ∧ ∀ before n rest, l = before ++ n :: rest → holds banned before n
     ((fill.length < 1 ∨ 4 < fill.length) → run = bad 1) ∧
     (∀ before n rest, fill.length ≤ 4 → fill = before ++ n :: rest → ¬holds relief before n →
        (∀ b m r, before = b ++ m :: r → holds relief b m) → run = bad (before.length + 2)) ∧
     (sound relief fill →
      ((send.length < 1 ∨ 4 < send.length) → run = bad (fill.length + 2)) ∧
      (∀ before n rest, send.length ≤ 4 → send = before ++ n :: rest → ¬holds (fun _ => False) before n →
        (∀ b m r, before = b ++ m :: r → holds (fun _ => False) b m) →
        run = bad (fill.length + before.length + 3))))) ∧
  (∀ (tag : Byte) (fill send : List HolderId) (s : State), Reaches false s →
    1 ≤ fill.length → fill.Nodup → (∀ h ∈ fill, s.tables.isRelief h = false) → 1 ≤ send.length → send.Nodup →
    ∃ t, exec (.planSet tag (fill.map number) (send.map number)) s = .next t ∧
      t.retained.fillOrder = fill ∧ t.retained.sendOrder = send ∧ t.retained.checkGood = true ∧
      t.holders = s.holders ∧ (∀ h : HolderId, t.controls[h].control = s.controls[h].control) ∧
      (∀ c, s.part = .run → s.plan.record = some c → c.phase ≠ .stuck → s.plan.settle = none → s.plan.inbox = [] →
        t.plan.fillMark = true ∧ t.plan.sendMark = true ∧ t.plan.record = some c ∧ t.valves = s.valves) ∧
      SameOutsideYard (answered 0x25 tag (.accepted [])
        { s with retained := { s.retained with fillOrder := fill, sendOrder := send } }) t)

/-! ### Meters and the check measurement -/

/-- A pulse on an enabled channel that the check does not count: the window count by R102's table and the interval by
R107, with METER-SATURATED and the periods' flag at the pulse that saturates (R103); a pulse on a channel that is not
enabled changes nothing. The interval counter that reaches its limit stops with no last interval (R107). That the stop
of a counter that is not running changes nothing is the model's own arrangement (log entry 1). -/
def Obligations.PulsesAndIntervals : Prop :=
  (∀ (p : PulseId) (s : State), s.supply = true → s.tables.meterOn p = true →
    (s.check.active = false ∨
      (p ≠ 5 ∧ ∀ target : Fin 5, s.check.target = some target → p ≠ target.castSucc)) →
    (let m := s.meters[p]
     let counted : Meter :=
      if m.saturated then m
      else if m.counter < 65535 then { m with counter := m.counter + 1 }
      else if m.stage then { m with saturated := true }
      else { m with counter := 0, stage := true }
     let timed : Meter := { counted with interval := some 0, lastInterval := m.interval.map (max 1) }
     let t := { s with meters := s.meters.set p timed }
     exec (.pulse p) s = .next
      (if m.saturated = false ∧ counted.saturated = true then
        (if p = 5 then momentAlarm .meterSaturated p.val t
          else markPeriods { Flags.none with saturated := true } (momentAlarm .meterSaturated p.val t))
       else t))) ∧
  (∀ (p : PulseId) (s : State), s.tables.meterOn p = false → exec (.pulse p) s = .next s) ∧
  (∀ (p : PulseId) (s : State), s.supply = true → s.meters[p].interval.isSome = true →
    exec (.intervalCounterStop p) s = .next
      { s with meters := s.meters.set p { s.meters[p] with interval := none, lastInterval := none } }) ∧
  (∀ (p : PulseId) (s : State), s.meters[p].interval = none → exec (.intervalCounterStop p) s = .next s)

/-- The pulses of an active check (R110, R111): the gate opens at the first target pulse, P5 pulses count while it is
open, and the N-th target pulse closes it with the ratio. The pulse also counts in its window and times its interval
(R101). The alarms are exactly METER-SATURATED where the pulse saturates its window, then CHECK-OUT where the gate
closes on a ratio outside the band, then CHECK-DONE where the check ends; that order is the model's choice (log entries
41 and 53). Nothing but the pulse's own channel, the check, the alarms and the periods' flags changes. That the gate
time shows no figure while the gate is open is the model's choice (log entry 44). -/
def Obligations.CheckPulses : Prop :=
  ∀ (p : PulseId) (target : Fin 5) (s : State), s.supply = true → s.tables.meterOn p = true →
    s.check.target = some target →
    ∃ t, exec (.pulse p) s = .next t ∧
      (let c := s.check
       let m := s.meters[p]
       let counted : Meter :=
        if m.saturated then m
        else if m.counter < 65535 then { m with counter := m.counter + 1 }
        else if m.stage then { m with saturated := true }
        else { m with counter := 0, stage := true }
       let saturates := m.saturated = false ∧ counted.saturated = true
       let told : State := if saturates then momentAlarm .meterSaturated p.val s else s
       t.meters = s.meters.set p { counted with interval := some 0, lastInterval := m.interval.map (max 1) } ∧
       t.retained = (if saturates ∧ p ≠ 5 then markPeriods { Flags.none with saturated := true } s else s).retained ∧
       (c.state = .armed → p = target.castSucc →
        t.check = { c with state := .running, targetCount := 0, checkCount := 0, timer := some 0
                           gateTimer := some 0 } ∧
        t.alarms = told.alarms) ∧
       (c.state = .armed → p = 5 → t.check = c ∧ t.alarms = told.alarms) ∧
       (c.state = .running → p = 5 → c.checkCount < 16777215 →
        t.check = { c with checkCount := c.checkCount + 1 } ∧ t.alarms = told.alarms) ∧
       (c.state = .running → p = 5 → 16777215 ≤ c.checkCount →
        t.check = { c with state := .aborted, timer := none, gateTimer := none, gateTime := none, ratio := none
                           cause := some .countLimit } ∧
        t.alarms = (momentAlarm .checkDone 0 told).alarms) ∧
       (c.state = .running → p = target.castSucc → c.targetCount + 1 < c.pulses →
        t.check = { c with targetCount := c.targetCount + 1, timer := some 0 } ∧ t.alarms = told.alarms) ∧
       (c.state = .running → p = target.castSucc → c.pulses ≤ c.targetCount + 1 →
        (let ratio := roundDiv ((c.checkCount : Int) * s.tables.meter[(5 : PulseId)].pulseVolume * 10000)
          ((c.pulses : Int) * s.tables.meter[p].pulseVolume)
         t.check = { c with state := .finished, targetCount := c.targetCount + 1, timer := none, gateTimer := none
                            gateTime := c.gateTimer.map seconds, ratio := some ratio } ∧
         t.alarms = (momentAlarm .checkDone 0
          (if ratio < 10000 - 10 * (c.tolerance : Int) ∨ 10000 + 10 * (c.tolerance : Int) < ratio then
            momentAlarm .checkOut target.val told else told)).alarms)) ∧
       ((c.state ≠ .armed ∧ c.state ≠ .running ∨ p ≠ 5 ∧ p ≠ target.castSucc) →
        t.check = c ∧ t.alarms = told.alarms)) ∧
      t = { s with meters := t.meters, check := t.check, alarms := t.alarms, retained := t.retained } ∧
      SameOutsideYard { s with meters := t.meters, check := t.check } t

/-- CHECK-START (R110): each refusal in its order, and a check ARMED with the figures given; the expiry of an active
check's timer leaves it TIMED-OUT with its counts, and CHECK-DONE is told (R112). That a timeout with no active check
changes nothing is the model's own arrangement (log entry 1). -/
def Obligations.CheckStartAndTimeout : Prop :=
  (∀ (tag : Byte) (target pulses tolerance : Nat) (s : State), Reaches false s →
    (4 < target → exec (.checkStart tag target pulses tolerance) s =
      .next (answered 0x2A tag (.rejected .badField (some ⟨0, 0, 1⟩)) s)) ∧
    (target ≤ 4 → (pulses < 10 ∨ 10000 < pulses) → exec (.checkStart tag target pulses tolerance) s =
      .next (answered 0x2A tag (.rejected .badField (some ⟨0, 0, 2⟩)) s)) ∧
    (target ≤ 4 → 10 ≤ pulses → pulses ≤ 10000 → (tolerance < 1 ∨ 500 < tolerance) →
      exec (.checkStart tag target pulses tolerance) s =
        .next (answered 0x2A tag (.rejected .badField (some ⟨0, 0, 3⟩)) s))) ∧
  (∀ (tag : Byte) (target : Fin 5) (pulses tolerance : Nat) (s : State), Reaches false s → 10 ≤ pulses →
    pulses ≤ 10000 → 1 ≤ tolerance → tolerance ≤ 500 →
    ((s.check.state = .armed ∨ s.check.state = .running) → exec (.checkStart tag target.val pulses tolerance) s =
      .next (answered 0x2A tag (.rejected .busy none) s)) ∧
    (s.check.state ≠ .armed → s.check.state ≠ .running →
      (s.tables.meterOn target.castSucc = false ∨ s.tables.meterOn 5 = false) →
      exec (.checkStart tag target.val pulses tolerance) s =
        .next (answered 0x2A tag (.rejected .wrongState none) s)) ∧
    (s.check.state ≠ .armed → s.check.state ≠ .running → s.tables.meterOn target.castSucc = true →
      s.tables.meterOn 5 = true →
      exec (.checkStart tag target.val pulses tolerance) s = .next (answered 0x2A tag (.accepted [])
        { s with check :=
          { state := .armed, target := some target, pulses := pulses, tolerance := tolerance, targetCount := 0
            checkCount := 0, timer := some 0, gateTimer := none, gateTime := none, ratio := none, cause := none } }))) ∧
  (∀ s : State, s.supply = true → (s.check.state = .armed ∨ s.check.state = .running) →
    exec .checkTimeout s = .next (momentAlarm .checkDone 0
      { s with check := { s.check with state := .timedOut, timer := none, gateTimer := none, gateTime := none
                                       ratio := none, cause := none } })) ∧
  (∀ s : State, s.check.state ≠ .armed → s.check.state ≠ .running → exec .checkTimeout s = .next s)

/-- CHECK-STOP (R113), whole: refused in UNCONFIGURED; on an active check DONE with state ABORTED and end cause STOP,
the timer stopped, gate time and ratio absent, the counts kept and CHECK-DONE told; DONE with no effect otherwise. A
pulse taken after the stop finds no active check. -/
def Obligations.CheckStop : Prop :=
  (∀ (tag : Byte) (s : State), Listens s → s.part = .unconfigured →
    exec (.checkStop tag) s = .next (answered 0x2B tag (.rejected .unconfigured none) s)) ∧
  (∀ (tag : Byte) (s : State), Reaches false s → (s.check.state = .armed ∨ s.check.state = .running) →
    exec (.checkStop tag) s = .next (answered 0x2B tag (.accepted []) (momentAlarm .checkDone 0
      { s with check := { s.check with state := .aborted, timer := none, gateTimer := none, gateTime := none
                                       ratio := none, cause := some .requested } }))) ∧
  (∀ (tag : Byte) (s : State), Reaches false s → s.check.state ≠ .armed → s.check.state ≠ .running →
    exec (.checkStop tag) s = .next (answered 0x2B tag (.accepted []) s)) ∧
  (∀ (tag : Byte) (p : PulseId) (s t u : State), Reaches false s → exec (.checkStop tag) s = .next t →
    exec (.pulse p) t = .next u → u.check = t.check)

/-! ### The clock, minute windows and accounts -/

/-- An advance of the clock within a minute (R182, R157): one second more, counted in both open periods of a RUNNING
Account Unit that no start-up hold stops; while the supply is off the retained clock alone advances. The write refreshes
the check word (R180). -/
def Obligations.ClockSecondWithinAMinute : Prop :=
  ∀ s : State,
    (let t1 : Time :=
      if s.clock.second < 86399 then ⟨s.clock.day, s.clock.second + 1⟩
      else if s.clock.day < 65535 then ⟨s.clock.day + 1, 0⟩ else ⟨0, 0⟩
     let t := { s with retained := Retained.written { s.retained with clock := t1 } }
     (s.supply = false → exec .clockAdvance s = .next t) ∧
     (s.supply = true → t1.second % 60 ≠ 0 → (s.account.running = false ∨ s.account.hold = true) →
      exec .clockAdvance s = .next t) ∧
     (s.supply = true → t1.second % 60 ≠ 0 → s.account.running = true → s.account.hold = false →
      exec .clockAdvance s = .next
        { s with retained := Retained.written { s.retained with clock := t1, account := { s.retained.account with
            hour := s.account.hour.map fun h => { h with elapsed := h.elapsed + 1 }
            day := s.account.day.map fun d => { d with elapsed := d.elapsed + 1 } } } }))

/-- A minute end that is no hour end (R104, R105): every enabled channel's window closes with its standard volume, its
count kept where the window was full, and the volume of P0 to P4 joins the hour accumulator of a RUNNING unit. That a
channel changed by a commit and not yet converted gives its new figure and status is the model's choice (log entry 45).
-/
def Obligations.MinuteEndClosesWindows : Prop :=
  ∀ s : State, s.supply = true → s.clock.second < 86399 → (s.clock.second + 1) % 60 = 0 →
    (s.clock.second + 1) % 3600 ≠ 0 →
    ∃ t, exec .clockAdvance s = .next t ∧ t.clock = ⟨s.clock.day, s.clock.second + 1⟩ ∧
      (∀ p : PulseId,
        let m := s.meters[p]
        let count : Nat := (if m.stage then 65536 else 0) + m.counter
        let b := s.channels[barometer]
        let pr := s.channels[meterPressureChannel p]
        let te := s.channels[meterTemperatureChannel p]
        let volume := stdVolume ((count : Int) * s.tables.meter[p].pulseVolume) (b.figure 101325) (pr.figure 0)
          (te.figure 1500)
        (s.tables.meterOn p = true →
          t.meters[p] = { m with counter := 0, stage := false, saturated := false, full := true
                                 lastFull := if m.full then some count else m.lastFull, lastVolume := some volume
                                 lastEstimated := decide (b.status ≠ .valid ∨ pr.status ≠ .valid ∨
                                  te.status ≠ .valid) } ∧
          ∀ i : Fin 5, i.castSucc = p → t.account.accumulators[i] =
            if s.account.running then s.account.accumulators[i] + volume else s.account.accumulators[i]) ∧
        (s.tables.meterOn p = false →
          t.meters[p] = m ∧ ∀ i : Fin 5, i.castSucc = p → t.account.accumulators[i] = s.account.accumulators[i])) ∧
      t = { s with meters := t.meters, retained := t.retained } ∧ t.tables = s.tables ∧
      t.account.queue = s.account.queue ∧ t.account.running = s.account.running

/-- An hour end, midnight included (R157, R161, R164): the open hour closes as one HOUR record (HourFiled), with the
make and the send-out of the districts it lists, its balance, its flags, chained and signed over the record before it,
each channel's remainder left in its accumulator; the next hour opens on the closed hour's stock. The bytes a signature
covers are as the model reads R164 (log entry 23). Within a gas day the open day goes on. At the gas day's start, which
may be midnight, the day closes too, as one DAY record of the day's sums (DayFiled, R162), and a new day opens. The
class ALARM of a record raises UAG-HIGH (R163). -/
def Obligations.HourEndFilesARecord : Prop :=
  ∀ (s : State) (h : Hour) (d : Day), s.supply = true → s.account.running = true → s.account.hold = false →
    s.account.hour = some h → s.account.day = some d →
    (let next : Time :=
      if s.clock.second < 86399 then ⟨s.clock.day, s.clock.second + 1⟩
      else if s.clock.day < 65535 then ⟨s.clock.day + 1, 0⟩ else ⟨0, 0⟩
     let told (rs : List Record) : State :=
      rs.foldl (fun s r => if r.uagClass = .alarm then momentAlarm .uagHigh 0 s else s)
        { s with retained := { s.retained with clock := next } }
     next.second % 3600 = 0 →
     (next.second ≠ s.tables.gasDaySecond → s.account.queue.length < 64 →
      ∃ (t : State) (r : Record), exec .clockAdvance s = .next t ∧ t.clock = next ∧
        HourFiled s h (h.elapsed + 1) Flags.none t r ∧ t.account.queue = s.account.queue ++ [r] ∧
        t.account.nextSequence = (s.account.nextSequence + 1) % 65536 ∧ t.account.lastSignature = r.signature ∧
        (∃ h', t.account.hour = some h' ∧ h'.nominal = next ∧ h'.start = next ∧ h'.elapsed = 0 ∧
          h'.stockStart = r.stockEnd) ∧
        (∃ d', t.account.day = some d' ∧ d'.start = d.start ∧ d'.elapsed = d.elapsed + 1 ∧
          d'.make = d.make + r.make) ∧
        t.alarms = (told [r]).alarms ∧
        t = { s with meters := t.meters, retained := t.retained, alarms := t.alarms } ∧ t.tables = s.tables) ∧
     (next.second = s.tables.gasDaySecond → s.account.queue.length < 63 →
      ∃ (t : State) (r x : Record), exec .clockAdvance s = .next t ∧ t.clock = next ∧
        HourFiled s h (h.elapsed + 1) Flags.none t r ∧ DayFiled d (d.elapsed + 1) Flags.none r x ∧
        t.account.queue = s.account.queue ++ [r, x] ∧
        t.account.nextSequence = (s.account.nextSequence + 2) % 65536 ∧ t.account.lastSignature = x.signature ∧
        (∃ h', t.account.hour = some h' ∧ h'.nominal = next ∧ h'.start = next ∧ h'.elapsed = 0 ∧
          h'.stockStart = r.stockEnd) ∧
        (∃ d', t.account.day = some d' ∧ d'.nominal = next ∧ d'.start = next ∧ d'.elapsed = 0 ∧ d'.make = 0 ∧
          d'.stockStart = r.stockEnd) ∧
        t.alarms = (told [r, x]).alarms ∧
        t = { s with meters := t.meters, retained := t.retained, alarms := t.alarms } ∧ t.tables = s.tables))

/-- CLOCK-SET (R192): a second above 86,399 is refused at field 2; otherwise the clock takes the new time with its mark,
CLOCK-UNSET ends where the clock was not set, the windows are closed early, and the unit of a configured part, RUNNING
or started by it, opens an hour at the new time. A RUNNING unit first closes its open hour as an HOUR record with
CLOCK-SET (R167). Where the new time lies in the gas day of the open day that day goes on; otherwise it closes too, as a
DAY record with CLOCK-SET, and a new day opens at the new time. The hour and day that open start on the closed hour's
stock. A day number above 65,535 the model refuses at field 1, its own choice (log entry 13); the bytes that a signature
covers are as it reads R164 (log entry 23). -/
def Obligations.ClockSet : Prop :=
  (∀ (tag : Byte) (day second : Nat) (s : State), Reaches true s →
    (65535 < day → exec (.clockSet tag day second) s =
      .next (answered 0x21 tag (.rejected .badField (some ⟨0, 0, 1⟩)) s)) ∧
    (day ≤ 65535 → 86399 < second → exec (.clockSet tag day second) s =
      .next (answered 0x21 tag (.rejected .badField (some ⟨0, 0, 2⟩)) s))) ∧
  (∀ (tag : Byte) (day second : Nat) (s : State), Reaches true s → day ≤ 65535 → second ≤ 86399 →
    ∃ t, exec (.clockSet tag day second) s = .next t ∧ t.clock = ⟨day, second⟩ ∧ t.retained.clockSet = true ∧
      t.link = (answered 0x21 tag (.accepted []) s).link ∧
      (∀ p : PulseId, s.tables.meterOn p = true →
        t.meters[p].counter = 0 ∧ t.meters[p].stage = false ∧ t.meters[p].full = false ∧
        t.meters[p].lastFull = s.meters[p].lastFull ∧ t.meters[p].interval = s.meters[p].interval) ∧
      (∀ p : PulseId, s.tables.meterOn p = false → t.meters[p] = s.meters[p]) ∧
      (s.account.running = true ∨ s.retained.configured = true → t.account.running = true ∧
        ∃ h, t.account.hour = some h ∧ h.start = ⟨day, second⟩ ∧ h.nominal = ⟨day, 3600 * (second / 3600)⟩ ∧
          h.elapsed = 0) ∧
      (s.account.running = false → t.account.queue = s.account.queue ∧
        t.alarms = (if s.retained.clockSet then s else endAlarm .clockUnset 0 s).alarms) ∧
      (∀ (h : Hour) (d : Day), s.account.running = true → s.account.hour = some h → s.account.day = some d →
        s.account.queue.length < 63 →
        (let g := s.tables.gasDaySecond
         let gasDay : Time := ⟨if g ≤ second then day else if day = 0 then 65535 else day - 1, g⟩
         let told (rs : List Record) : State :=
          rs.foldl (fun s r => if r.uagClass = .alarm then momentAlarm .uagHigh 0 s else s) s
         let alarms (rs : List Record) : AlarmList :=
          (if s.retained.clockSet then told rs else endAlarm .clockUnset 0 (told rs)).alarms
         ∃ r : Record, HourFiled s h h.elapsed Flags.ofClockSet t r ∧ r.flags.clockSet = true ∧
          (∃ h', t.account.hour = some h' ∧ h'.stockStart = r.stockEnd) ∧
          (gasDay = d.nominal → t.account.queue = s.account.queue ++ [r] ∧ t.alarms = alarms [r] ∧
            ∃ d', t.account.day = some d' ∧ d'.nominal = d.nominal ∧ d'.start = d.start ∧ d'.elapsed = d.elapsed ∧
              d'.stockStart = d.stockStart ∧ d'.make = d.make + r.make) ∧
          (gasDay ≠ d.nominal → ∃ x : Record, DayFiled d d.elapsed Flags.ofClockSet r x ∧ x.flags.clockSet = true ∧
            t.account.queue = s.account.queue ++ [r, x] ∧ t.alarms = alarms [r, x] ∧
            ∃ d', t.account.day = some d' ∧ d'.nominal = gasDay ∧ d'.start = ⟨day, second⟩ ∧ d'.elapsed = 0 ∧
              d'.stockStart = r.stockEnd ∧ d'.make = 0))) ∧
      t = { s with retained := t.retained, meters := t.meters, alarms := t.alarms, link := t.link } ∧
      t.tables = s.tables ∧ t.retained.trims = s.retained.trims ∧ t.retained.fillOrder = s.retained.fillOrder ∧
      t.retained.sendOrder = s.retained.sendOrder)

/-- The class of a record (R163), whole: the two limits from the record's own make and the ACCOUNT entry that classes
it, ALARM above the alarm limit, ADVISORY above the advisory limit, NORMAL otherwise; a close tells UAG-HIGH where it
files a record classed ALARM and only there, before the ACCOUNT-DROP of a full queue (R161, R165); and a make of 0 or
below gives each limit the floor. -/
def Obligations.UagClassLimits : Prop :=
  (∀ (e : AccountEntry) (cause : Flags) (h : Hour) (d : Day) (stockEnd : Int) (s : State),
    ∀ r ∈ [hourRecord e cause h s, dayRecord e cause stockEnd d],
      (let advisory := max (roundDiv (e.advisory * r.make) 1000) e.floor
       let alarm := max (roundDiv (e.alarm * r.make) 1000) e.floor
       r.uagClass = (if alarm < |r.uag| then .alarm else if advisory < |r.uag| then .advisory else .normal) ∧
       (r.make ≤ 0 → 0 ≤ e.floor → (0 ≤ e.advisory → advisory = e.floor) ∧ (0 ≤ e.alarm → alarm = e.floor)))) ∧
  (∀ (e : AccountEntry) (cause : Flags) (h : Hour) (s : State), s.account.hour = some h →
    (closeHour e cause s).alarms =
      (let u := if (hourRecord e cause h s).uagClass = .alarm then momentAlarm .uagHigh 0 s else s
       if s.account.queue.length < 64 then u else momentAlarm .accountDrop 0 u).alarms) ∧
  (∀ (e : AccountEntry) (cause : Flags) (stockEnd : Int) (d : Day) (s : State), s.account.day = some d →
    (closeDay e cause stockEnd s).alarms =
      (let u := if (dayRecord e cause stockEnd d).uagClass = .alarm then momentAlarm .uagHigh 0 s else s
       if s.account.queue.length < 64 then u else momentAlarm .accountDrop 0 u).alarms)

/-- The account queue. A record joins at the tail; a full queue first drops its oldest HOUR record, or its oldest record
where all are DAY records, and tells ACCOUNT-DROP (R165). ACCOUNT-FREE is refused at its field for a number the queue
does not hold; otherwise every record up to and including the named one leaves, the answer gives the count left, and
nothing else changes (R166). -/
def Obligations.AccountQueue : Prop :=
  (∀ (r : Record) (s : State), s.account.queue.length < 64 →
    enqueue r s = s.setAccount { s.account with queue := s.account.queue ++ [r] }) ∧
  (∀ (r x : Record) (before after : List Record) (s : State), s.account.queue = before ++ x :: after →
    64 ≤ s.account.queue.length → (∀ y ∈ before, y.dayRecord = true) → x.dayRecord = false →
    (enqueue r s).account.queue = before ++ after ++ [r] ∧ (enqueue r s).alarms.Told .accountDrop 0) ∧
  (∀ (r x : Record) (after : List Record) (s : State), s.account.queue = x :: after →
    64 ≤ s.account.queue.length → (∀ y ∈ x :: after, y.dayRecord = true) →
    (enqueue r s).account.queue = after ++ [r] ∧ (enqueue r s).alarms.Told .accountDrop 0) ∧
  (∀ (tag : Byte) (q : Nat) (s : State), Reaches false s → (∀ r ∈ s.account.queue, r.sequence ≠ q) →
    exec (.accountFree tag q) s = .next (answered 0x34 tag (.rejected .badField (some ⟨0, 0, 1⟩)) s)) ∧
  (∀ (tag : Byte) (before after : List Record) (r : Record) (s : State), Reaches false s →
    s.account.queue = before ++ r :: after → (∀ x ∈ before, x.sequence ≠ r.sequence) →
    exec (.accountFree tag r.sequence) s = .next (answered 0x34 tag (.accepted (signedBytes 4 (after.length : Int)))
      (s.setAccount { s.account with queue := after })))

/-! ### Street pressure -/

/-- A tick (R108, R119 to R125). The feed figures come from the send holder's working pressure and the booster as it
then stands. A configured district's wanted is the slot's profile term, its load term and its trim, clamped to its caps,
and its target the smaller of wanted and the available feed. A district that is not FROZEN moves its setpoint toward the
target by at most the slew and is then cut to the available feed, which is all that a prompt evaluation does; a FROZEN
one keeps it. That a tick with the tick timer stopped changes nothing is the model's own arrangement (log entry 1). -/
def Obligations.TickSlewsAndCuts : Prop :=
  (∀ s : State, s.supply = true → s.press.tickTimer.isSome = true →
    ∃ t, exec .tick s = .next t ∧
      (∀ d : DistrictId,
        let e := s.tables.district[d]
        let r := s.districts[d]
        let r' := t.districts[d]
        let p := districtPulse d
        let m := s.meters[p]
        let volume := s.tables.meter[p].pulseVolume
        (s.tables.districtOn d = true →
          (s.retained.clockSet = true → s.clock.second ≤ 86399 → r'.slot = some (s.clock.second / 1800) ∧
            ∀ i : Fin 48, i.val = s.clock.second / 1800 → r'.profileTerm = s.tables.profile[profileIndex d i]) ∧
          (s.retained.clockSet = false → r'.slot = none ∧
            (∃ i : Fin 48, r'.profileTerm = s.tables.profile[profileIndex d i]) ∧
            ∀ i : Fin 48, r'.profileTerm ≤ s.tables.profile[profileIndex d i]) ∧
          (s.tables.meterOn p = false → r'.load = 0) ∧
          (∀ n : Nat, s.tables.meterOn p = true → m.lastFull = some n → 60 ≤ n →
            r'.load = roundDiv ((n : Int) * volume * 60) 1000) ∧
          (s.tables.meterOn p = true → (∀ n, m.lastFull = some n → n < 60) →
            (∀ i l : Nat, m.interval = some i → m.lastInterval = some l →
              r'.load = roundDiv (volume * 36000) ((max l i : Nat) : Int)) ∧
            (m.interval = none ∨ m.lastInterval = none → r'.load = 0)) ∧
          r'.cap = min e.maxOut (e.maxPoint - roundDiv (e.elevation * e.gain) 100) ∧
          r'.loadTerm = roundDiv (r'.load * e.loadGain) 1000000 ∧
          r'.wanted = clamp e.minOut r'.cap (r'.profileTerm + r'.loadTerm + s.retained.trims[d]) ∧
          r'.target = min r'.wanted t.press.available ∧
          (r.frozen = true → r'.setpoint = r.setpoint ∧ r'.feedShort = r.feedShort) ∧
          (r.frozen = false →
            (r'.feedShort = true ↔ r'.target < e.minOut) ∧
            r'.setpoint = min
              (if r.setpoint < r'.target then min r'.target (r.setpoint + e.slew)
                else if r'.target < r.setpoint then max r'.target (r.setpoint - e.slew) else r.setpoint)
              t.press.available)) ∧
        (s.tables.districtOn d = false → r' = r)) ∧
      (s.press.send = none → t.press.feed = 0 ∧ t.press.available = 0) ∧
      (∀ h : HolderId, s.press.send = some h →
        t.press.feed = max 0 (s.holders[h].pressure - s.tables.yard.margin) ∧
        t.press.available = max 0 (s.holders[h].pressure - s.tables.yard.margin +
          if t.booster.state = .running ∨ t.booster.state = .runOn then s.tables.yard.boosterRise else 0)) ∧
      t = { s with districts := t.districts, press := t.press, booster := t.booster, alarms := t.alarms } ∧
      t.press.tickTimer = some 0 ∧ t.press.send = s.press.send ∧ t.press.freeze = s.press.freeze) ∧
  (∀ (d : DistrictId) (s : State), s.press.begun = true → s.tables.districtOn d = true →
    (promptEvaluation s).districts[d].setpoint =
      if s.districts[d].frozen then s.districts[d].setpoint
      else min s.districts[d].setpoint (promptEvaluation s).press.available) ∧
  (∀ s : State, s.press.tickTimer = none → exec .tick s = .next s)

/-- The booster. Its demand with the hysteresis, the start, RUN-ON and the way back at an evaluation, a tick's or a
prompt one (R130, R131, R133, R134; `BoosterEvaluated`); the run contact's event, which proves a start and fails a
booster that runs (R132 to R134), and the loss of the send holder, which stops it; its two timers and its reset (R119,
R132, R134, R135). A start that is not proved in time is FAILED with cause NO-START; a run-on that ends, and a reset of
a FAILED booster, leave it STOPPED unless the prompt evaluation they make finds the demand set, which starts it afresh;
a reset in the other states changes nothing. That an expiry of a stopped timer changes nothing is the model's own
arrangement (log entry 1), and so is what `boosterWaits` holds back, the booster being first judged at the first tick
after a start-up (log entry 21). -/
def Obligations.BoosterTimersAndReset : Prop :=
  (∀ s : State, s.supply = true → s.press.tickTimer.isSome = true →
    ∃ t, exec .tick s = .next t ∧ BoosterEvaluated s t) ∧
  (∀ s : State, s.press.begun = true → s.press.boosterWaits = false → BoosterEvaluated s (promptEvaluation s)) ∧
  (∀ (made : BitVec 64) (quiet : BitVec 4) (order : BlockOrder) (s : State), s.supply = true → planAwake s = true →
    s.plan.inbox = [] →
    (let cycle := scanCycle made quiet s
     ∀ d : Delivery, cycle.2 = [d] → d.use = .boosterRun →
      (let b := { s.booster with contact := d.left }
       let put (x : Booster) : State :=
        { cycle.1 with booster := x
                       startUp := { s.startUp with scans := min 2 (s.startUp.scans + 1), cycleTimer := some 0 } }
       (b.state = .starting → d.left = ⟨true, true⟩ → exec (.scanCycleEnd made quiet order) s = .next
        (promptEvaluation (put { b with state := .running, startTimer := none, runOnTimer := none }))) ∧
       ((b.state = .running ∨ b.state = .runOn) → d.left = ⟨false, true⟩ →
        exec (.scanCycleEnd made quiet order) s = .next
          (promptEvaluation (raiseAlarm .boosterFailed 0
            (put { b with state := .failed, runLine := false, startTimer := none, runOnTimer := none
                          cause := some .quitRunning })))) ∧
       ((b.state = .idle ∨ b.state = .failed ∨ b.state = .starting ∧ d.left ≠ ⟨true, true⟩ ∨
          (b.state = .running ∨ b.state = .runOn) ∧ d.left ≠ ⟨false, true⟩) →
        exec (.scanCycleEnd made quiet order) s = .next (put b))))) ∧
  (∀ s : State, s.press.send.isSome = true → s.plan.send = none →
    (let b := (deliverPlan true s).booster
     ((s.booster.state = .starting ∨ s.booster.state = .running ∨ s.booster.state = .runOn) →
      b.state = .idle ∧ b.runLine = false ∧ b.startTimer = none ∧ b.runOnTimer = none) ∧
     ((s.booster.state = .idle ∨ s.booster.state = .failed) → b = { s.booster with demand := b.demand }))) ∧
  (∀ s : State, s.supply = true → s.booster.startTimer.isSome = true →
    ∃ t, exec .boosterStartTimeout s = .next t ∧ t.booster.state = .failed ∧ t.booster.cause = some .noStart ∧
      t.booster.runLine = false ∧ t.booster.startTimer = none ∧ t.booster.runOnTimer = none ∧
      t = { s with booster := t.booster, districts := t.districts, press := t.press, alarms := t.alarms }) ∧
  (∀ s : State, s.supply = true → s.booster.runOnTimer.isSome = true →
    ∃ t, exec .runOnExpiry s = .next t ∧
      (t.booster.demand = false →
        t.booster.state = .idle ∧ t.booster.runLine = false ∧ t.booster.startTimer = none ∧
        t.booster.runOnTimer = none) ∧
      (t.booster.demand = true → s.press.begun = true → s.press.boosterWaits = false → s.press.send.isSome = true →
        s.tables.boosterFitted = true →
        t.booster.runLine = true ∧ t.booster.state =
          if s.booster.contact.active ∧ s.booster.contact.valid then .running else .starting) ∧
      t = { s with booster := t.booster, districts := t.districts, press := t.press, alarms := t.alarms }) ∧
  (∀ s : State, s.booster.startTimer = none → exec .boosterStartTimeout s = .next s) ∧
  (∀ s : State, s.booster.runOnTimer = none → exec .runOnExpiry s = .next s) ∧
  (∀ (tag : Byte) (s : State), Reaches false s → s.booster.state ≠ .failed →
    exec (.boosterReset tag) s = .next (answered 0x2C tag (.accepted []) s)) ∧
  (∀ (tag : Byte) (s : State), Reaches false s → s.booster.state = .failed →
    ∃ t, exec (.boosterReset tag) s = .next t ∧ t.booster.cause = s.booster.cause ∧ t.booster.state ≠ .failed ∧
      (t.booster.demand = false → t.booster.state = .idle ∧ t.booster.runLine = false) ∧
      t = answered 0x2C tag (.accepted [])
        { s with booster := t.booster, districts := t.districts, press := t.press, alarms := t.alarms })

/-! ### The outstation line -/

/-- The line driver's ends (R141, R146, R149): an ask's last byte opens its window, and the broadcast's the first answer
slot; the last byte of an ask aborted while it was still being sent opens the whole of its quiet window, as the model
reads R149 (log entry 26). At the quiet window's end a waiting CALL or a waiting poll goes, the poll to the first
station of the round list that is still configured, or, where there is none, to the next round's first (R145); with
neither waiting the window alone ends. -/
def Obligations.LineDriverEvents : Prop :=
  ∀ s : State, s.supply = true →
    (s.line.driver = .ask →
      exec .outstationAskSent s = .next { s with line := { s.line with driver := .idle, window := some 0 } }) ∧
    (s.line.driver = .dropped →
      exec .outstationAskSent s = .next { s with line := { s.line with driver := .idle, quiet := some 2000 } }) ∧
    (s.line.driver = .call →
      exec .callBroadcastSent s = .next
        { s with line := { s.line with driver := .idle, slot := some 0, bytes := [] } }) ∧
    (s.line.quiet.isSome = true → s.line.driver ≠ .dropped →
      (s.line.callWaiting = true → s.line.state = .calling →
        exec .quietWindowEnd s = .next { s with line := { s.line with
          quiet := none, pollWaiting := false, driver := .call, slot := none, callWaiting := false, bytes := [] } }) ∧
      (s.line.pollWaiting = true → s.line.state = .polling →
        ∃ l : Line, NextPoll s { s.line with quiet := none, pollWaiting := false } l ∧
          exec .quietWindowEnd s = .next { s with line := l }) ∧
      ((s.line.callWaiting = false ∨ s.line.state ≠ .calling) →
        (s.line.pollWaiting = false ∨ s.line.state ≠ .polling) →
        exec .quietWindowEnd s = .next { s with line := { s.line with quiet := none, pollWaiting := false } }))

/-- Bytes on the line (R141 to R143). One that completes no answer frame is kept while an ask awaits its answer, and
discarded while nothing is awaited; that an answer is the latest six bytes, whatever came before them, and that bytes
before the ask's last byte has left are discarded, is how the model reads R141 (log entry 25). One that completes a
frame ends the ask, polled or manual: WRONG-STATION from another address, a miss for a poll; GOOD from the asked
station, which is PRESENT. A GOOD answer to READ-POINT on a configured station is gated (R142): WAIT, OLD with
accept-old not set, and an age past the stale limit leave the reading; READY and OLD otherwise become the reading. A
code that is none of the three is held by its age or moves nothing (log entry 6). An acceptance makes one trim decision
at the district the station serves (R127), and is the open day's minimum or maximum point of the station's district
where the Account Unit is RUNNING with no start-up hold (R159). A manual ask's result record takes the answer and the
line state is HELD, or POLLING where a free is pending (R148). The alarms are STATION-ABSENT's and STATION-STALE's own
rises and ends (R143, R144). -/
def Obligations.StationAnswers : Prop :=
  (∀ (a : Ask) (b : Byte) (between : Bool) (s : State), s.supply = true → s.line.ask = some a →
    s.line.window.isSome = true → latestFrame (s.line.bytes ++ [b]) = none →
    exec (.outstationByteReceived b between) s =
      .next { s with line := { s.line with bytes := s.line.bytes ++ [b] } }) ∧
  (∀ (b : Byte) (between : Bool) (s : State), s.line.window = none → s.line.slot = none →
    exec (.outstationByteReceived b between) s = .next s) ∧
  (∀ (a : Ask) (b : Byte) (between : Bool) (f : StationFrame) (s : State), s.supply = true → s.line.ask = some a →
    s.line.window.isSome = true → latestFrame (s.line.bytes ++ [b]) = some f →
    ∃ t, exec (.outstationByteReceived b between) s = .next t ∧
      (let n := a.station
       let e := s.tables.station[n]
       let r := s.stations[n]
       let on := s.tables.stationOn n = true
       let good := f.address = BitVec.ofNat 8 (number n)
       let result : AskResult := if good then .good f.code else .wrongStation
       let gating : Option Gating :=
        if good ∧ a.function = .readPoint ∧ on then
          if f.code = 3 then some .noUpdate
          else if f.code = 2 ∧ e.acceptOld ≠ 1 then some .heldOld
          else if e.staleLimit < (f.age : Int) then some .heldAged
          else if f.code = 1 ∨ f.code = 2 then some .accepted
          else none
        else none
       let misses := min 3 (r.misses + 1)
       let answered : Station :=
        if good then { r with presence := .present, misses := 0, lastResult := some result }
        else if a.manual then { r with lastResult := some result }
        else { r with misses := misses, presence := if misses = 3 then .absent else r.presence
                      lastResult := some result }
       let gated : Station :=
        if gating = some .accepted then
          { answered with reading := some f.value, age := f.age, freshness := .fresh, lastGating := gating }
        else if gating = none then answered
        else { answered with lastGating := gating }
       let presenceTold : State :=
        if r.presence ≠ .absent ∧ gated.presence = .absent then raiseAlarm .stationAbsent (number n) s
        else if r.presence = .absent ∧ gated.presence ≠ .absent then endAlarm .stationAbsent (number n) s
        else s
       let told : State :=
        if gating = some .accepted ∧ r.freshness = .stale then endAlarm .stationStale (number n) presenceTold
        else presenceTold
       (on → t.stations = s.stations.set n gated ∧ t.alarms = told.alarms) ∧
       (¬on → t.stations = s.stations ∧ t.alarms = s.alarms) ∧
       (a.manual = false →
        t.line = { s.line.quieted with state := if s.line.state = .holding then .held else s.line.state }) ∧
       (a.manual = true → t.line = { s.line.afterManual with
        manualResult := s.line.manualResult.map fun m =>
          if good then { m with result := some result, value := some f.value, age := some f.age, gating := gating }
          else { m with result := some result, value := none, age := none, gating := none } }) ∧
       (gating ≠ some .accepted → t.retained = s.retained ∧ t.districts = s.districts) ∧
       (gating = some .accepted →
        (districtServedBy s.tables n = none → t.retained.trims = s.retained.trims ∧ t.districts = s.districts) ∧
        (∀ d, districtServedBy s.tables n = some d →
          (let e := s.tables.district[d]
           let trim := s.retained.trims[d]
           let decision : TrimDecision :=
            if f.value < e.minPoint then .raised
            else if e.maxPoint < f.value then .lowered
            else if 0 < trim ∧ e.minPoint + e.trimBand < f.value then .lowered
            else if trim < 0 ∧ f.value < e.maxPoint - e.trimBand then .raised
            else .kept
           let moved : Int :=
            match decision with
            | .raised => trim + e.trimStep
            | .lowered => trim - e.trimStep
            | .kept => trim
           t.retained.trims = s.retained.trims.set d (clamp (-e.trimLimit) e.trimLimit moved) ∧
           t.districts = s.districts.set d { s.districts[d] with lastDecision := some (f.value, decision) })) ∧
        (∀ (day : Day) (d : DistrictId), s.account.running = true → s.account.hold = false →
          s.account.day = some day → e.district = (number d : Int) →
          t.account = { s.account with day := some { day with
            minPoint := day.minPoint.set d (some (match day.minPoint[d] with
              | some x => min x f.value
              | none => f.value))
            maxPoint := day.maxPoint.set d (some (match day.maxPoint[d] with
              | some x => max x f.value
              | none => f.value)) } }) ∧
        ((s.account.running = false ∨ s.account.hold = true) → t.account = s.account))) ∧
      t = { s with stations := t.stations, line := t.line, alarms := t.alarms, retained := t.retained
                   districts := t.districts } ∧
      t.tables = s.tables ∧ t.clock = s.clock ∧ t.account.queue = s.account.queue)

/-- The close of an answer window (R141, R143, R148): NO-ANSWER with no byte received, BAD-CHECK otherwise. A poll
counts a miss, and the third makes the station ABSENT; a manual ask counts none and leaves its result record ENDED and
the line HELD, or POLLING where a free is pending. That a close with no window open changes nothing is the model's own
arrangement (log entry 1). -/
def Obligations.AnswerWindowCloses : Prop :=
  (∀ (a : Ask) (s : State), s.supply = true → s.line.ask = some a → s.line.window.isSome = true →
    (let result : AskResult := if s.line.bytes = [] then .noAnswer else .badCheck
     let r := s.stations[a.station]
     let misses := min 3 (r.misses + 1)
     ∃ t, exec .answerWindowClose s = .next t ∧
      t.stations = (if s.tables.stationOn a.station then s.stations.set a.station
          (if a.manual then { r with lastResult := some result }
            else { r with lastResult := some result, misses := misses
                          presence := if misses = 3 then .absent else r.presence })
        else s.stations) ∧
      (a.manual = false →
        t.line = { s.line.quieted with state := if s.line.state = .holding then .held else s.line.state }) ∧
      (a.manual = true → t.line = { s.line.afterManual with
        manualResult := s.line.manualResult.map fun m =>
          { m with result := some result, value := none, age := none, gating := none } }) ∧
      (a.manual = false → s.tables.stationOn a.station = true → r.presence ≠ .absent → 2 ≤ r.misses →
        t.alarms.Told .stationAbsent (number a.station)) ∧
      t = { s with stations := t.stations, line := t.line, alarms := t.alarms })) ∧
  (∀ s : State, s.line.window = none → exec .answerWindowClose s = .next s)

/-- A second of the controller's timer (R144): the reading age of every configured station that has a reading rises by
one, no further than 65,535, and its freshness is judged against the stale limit; no other station changes. -/
def Obligations.ReadingAges : Prop :=
  ∀ s : State, s.supply = true →
    ∃ t, exec .readingAgeSecond s = .next t ∧
      (∀ n : StationId,
        let r := s.stations[n]
        let age := min 65535 (r.age + 1)
        t.stations[n] = if s.tables.stationOn n = true ∧ r.reading.isSome = true then
          { r with age := age
                   freshness := if (age : Int) ≤ s.tables.station[n].staleLimit then .fresh else .stale }
          else r) ∧
      t = { s with stations := t.stations, line := { s.line with ageTimer := some 0 }, alarms := t.alarms }

/-- An expiry of the poll timer (R145): in POLLING with no quiet window, the stations at the front of the round list
that are no longer configured leave it and the next is asked, or, where none is left, a new round begins whose list
passes over the ABSENT stations but in round 8 (`NextPoll`); while a quiet window runs the poll waits; in any other line
state, MANUAL-BUSY with its ask in flight among them, the timer starts again from 0 and nothing is asked. -/
def Obligations.PollExpiry : Prop :=
  ∀ s : State, s.supply = true → s.line.pollTimer.isSome = true →
    (∀ a : Ask, s.line.ask = some a → a.manual = true → s.line.state = .manualBusy →
      exec .pollTimerExpiry s = .next { s with line := { s.line with pollTimer := some 0 } }) ∧
    (s.line.ask = none →
      (s.line.state ≠ .polling →
        exec .pollTimerExpiry s = .next { s with line := { s.line with pollTimer := some 0 } }) ∧
      (s.line.state = .polling → s.line.quiet.isSome = true →
        exec .pollTimerExpiry s = .next { s with line := { s.line with pollTimer := some 0, pollWaiting := true } }) ∧
      (s.line.state = .polling → s.line.quiet = none →
        ∃ l : Line, NextPoll s { s.line with pollTimer := some 0 } l ∧
          exec .pollTimerExpiry s = .next { s with line := l }))

/-- The answer slots (R146). A byte received inside a slot is kept with those before it, and one between two slots is
discarded, which of the two being given with the byte (log entry 25). At a slot's close, the configured station whose
slot it is becomes PRESENT, ABSENT or UNKNOWN by what the slot received. Before the eighth slot the next opens; outside
START-UP the eighth ends the roll call, forms the round list of the UNKNOWN and then the PRESENT stations, and asks the
first of them at once. That a frame is any six of the slot's bytes with a good check is how the model reads R146 (log
entry 25), and that the end of a roll call outside START-UP begins polling and nothing else is how it reads R151 and
R185 (log entry 19). -/
def Obligations.RollCallSlotCloses : Prop :=
  (∀ (i : StationId) (b : Byte) (s : State), s.line.slot = some i → s.line.ask = none →
    (s.supply = true → exec (.outstationByteReceived b false) s =
      .next { s with line := { s.line with bytes := s.line.bytes ++ [b] } }) ∧
    exec (.outstationByteReceived b true) s = .next s) ∧
  (∀ (i : StationId) (s : State), s.supply = true → s.line.slot = some i → (i ≠ 7 ∨ s.part ≠ .startUp) →
    ∃ t, exec .rollCallSlotClose s = .next t ∧
      (let r := s.stations[i]
       let judged : Station :=
        if s.line.bytes = [] then { r with presence := .absent, misses := 3 }
        else if (framesIn s.line.bytes).map StationFrame.address = [BitVec.ofNat 8 (number i)] then
          { r with presence := .present, misses := 0 }
        else { r with presence := .unknown, misses := 0 }
       t.stations = s.stations.set i (if s.tables.stationOn i then judged else r)) ∧
      (∀ j : StationId, i.val + 1 = j.val → t.line = { s.line with slot := some j, bytes := [] }) ∧
      (i = 7 →
        (let on (x : Presence) := allStations.filter fun n =>
          s.tables.stationOn n && decide (t.stations[n].presence = x)
         t.line = { s.line with state := .polling, slot := none, bytes := [], round := 1, firstRound := true
                                pollTimer := some 0 }.pollsFirst (on .unknown ++ on .present))) ∧
      t = { s with stations := t.stations, line := t.line, alarms := t.alarms })

/-- LINE-HOLD, LINE-FREE and LINE-KILL (R147, R149, R150), in each line state; a poll that waited for the quiet window's
end waits no longer once the line is held. A killed ask ends ABORTED and the quiet window runs until its answer window
would have closed. Nothing but the line, and the last result of the configured station whose ask is killed, changes. -/
def Obligations.LineHoldFreeKill : Prop :=
  ∀ (tag : Byte) (s : State), Reaches false s →
    (s.line.state = .calling →
      exec (.lineHold tag) s = .next (answered 0x2D tag (.rejected .busy none) s)) ∧
    (s.line.state = .polling →
      exec (.lineHold tag) s = .next (answered 0x2D tag (.accepted [])
        { s with line := { s.line with state := if s.line.ask.isSome then .holding else .held
                                       pollWaiting := false } })) ∧
    ((s.line.state = .holding ∨ s.line.state = .held) →
      exec (.lineHold tag) s = .next (answered 0x2D tag (.accepted []) s)) ∧
    (s.line.state = .manualBusy →
      exec (.lineHold tag) s = .next (answered 0x2D tag (.accepted [])
        { s with line := { s.line with freePending := false } })) ∧
    ((s.line.state = .held ∨ s.line.state = .holding) →
      exec (.lineFree tag) s = .next (answered 0x2E tag (.accepted [])
        { s with line := { s.line with state := .polling } })) ∧
    (s.line.state = .manualBusy →
      exec (.lineFree tag) s = .next (answered 0x2E tag (.accepted [])
        { s with line := { s.line with freePending := true } })) ∧
    ((s.line.state = .calling ∨ s.line.state = .polling) →
      exec (.lineFree tag) s = .next (answered 0x2E tag (.accepted []) s)) ∧
    (s.line.state ≠ .manualBusy →
      exec (.lineKill tag) s = .next (answered 0x30 tag (.accepted []) s)) ∧
    (∀ (a : Ask) (e : Nat), s.line.state = .manualBusy → s.line.ask = some a → a.manual = true →
      s.line.window = some e →
      exec (.lineKill tag) s = .next (answered 0x30 tag (.accepted [])
        { s with
          line := { s.line.afterManual with
            quiet := some (2000 - e)
            manualResult := s.line.manualResult.map fun m =>
              { m with result := some .aborted, value := none, age := none, gating := none } }
          stations := if s.tables.stationOn a.station then
              s.stations.set a.station { s.stations[a.station] with lastResult := some .aborted }
            else s.stations }))

/-- LINE-ASK and LINE-RESTART (R148, R151): each refusal, a manual ask sent on a HELD line with no quiet window, and a
restart that leaves the line CALLING, its broadcast sent at once or waiting for the quiet window. That it also waits for
a quiet window an earlier kill left, and the window of an ask aborted while it was still being sent, is how the model
reads R151 (log entry 26). -/
def Obligations.LineAskAndRestart : Prop :=
  (∀ (tag : Byte) (n f a : Nat) (s : State), Reaches false s →
    ((n < 1 ∨ 8 < n) → exec (.lineAsk tag n f a) s =
      .next (answered 0x2F tag (.rejected .badField (some ⟨0, 0, 1⟩)) s)) ∧
    (1 ≤ n → n ≤ 8 → (f < 1 ∨ 3 < f) → exec (.lineAsk tag n f a) s =
      .next (answered 0x2F tag (.rejected .badField (some ⟨0, 0, 2⟩)) s)) ∧
    (1 ≤ n → n ≤ 8 → 1 ≤ f → f ≤ 3 → a ≤ 255 →
      (s.line.state = .calling ∨ s.line.state = .polling ∨ s.line.state = .holding) →
      exec (.lineAsk tag n f a) s = .next (answered 0x2F tag (.rejected .notHeld none) s)) ∧
    (1 ≤ n → n ≤ 8 → 1 ≤ f → f ≤ 3 → a ≤ 255 →
      (s.line.state = .manualBusy ∨ (s.line.state = .held ∧ s.line.quiet.isSome = true)) →
      exec (.lineAsk tag n f a) s = .next (answered 0x2F tag (.rejected .busy none) s))) ∧
  (∀ (tag : Byte) (n : StationId) (f : Nat) (function : AskFunction) (a : Byte) (s : State), Reaches false s →
    (f, function) ∈ [(1, AskFunction.readPoint), (2, .readStatus), (3, .echo)] → s.line.state = .held →
    s.line.quiet = none →
    exec (.lineAsk tag (number n) f a.toNat) s = .next (answered 0x2F tag (.accepted [])
      { s with line := { s.line with
          state := .manualBusy, ask := some ⟨n, function, a, true⟩, driver := .ask, window := none, bytes := []
          manualResult := some { station := n, function := function, argument := a, result := none, value := none
                                 age := none, gating := none } } })) ∧
  (∀ (tag : Byte) (s : State), Reaches false s →
    (s.line.state = .calling → exec (.lineRestart tag) s = .next (answered 0x31 tag (.rejected .busy none) s)) ∧
    (s.line.state ≠ .calling → s.line.ask = none → s.line.quiet = none →
      exec (.lineRestart tag) s = .next (answered 0x31 tag (.accepted [])
        { s with line := { s.line with
            freePending := false, roundList := [], state := .calling, pollTimer := none, pollWaiting := false
            driver := .call, slot := none, callWaiting := false, bytes := [] } })) ∧
    (s.line.state ≠ .calling → (s.line.ask ≠ none ∨ s.line.quiet.isSome = true) →
      ∃ t, exec (.lineRestart tag) s = .next t ∧ t.line.state = .calling ∧ t.line.ask = none ∧
        t.line.callWaiting = true ∧ t.line.quiet.isSome = true ∧ t.line.roundList = [] ∧
        t.line.freePending = false ∧ t.line.pollTimer = none ∧ (∀ n : StationId,
          t.stations[n].misses = s.stations[n].misses ∧ t.stations[n].presence = s.stations[n].presence) ∧
        t = answered 0x31 tag (.accepted []) { s with line := t.line, stations := t.stations }))

/-! ### The alarm list -/

/-- What the list does with a rise and with an end of a condition (R173) and with a momentary alarm (R174), by the entry
it finds of the same kind and source: appended, subject to R176 where the list holds 32 entries, or changed in place.
ATTENTION is judged at each (R177), and nothing but the list changes. -/
def Obligations.AlarmDeliveries : Prop :=
  (∀ (k : AlarmKind) (i : Nat) (s : State),
    (let l := s.alarms.entries
     let found := l.find? fun e => decide (e.kind = k ∧ e.index = i)
     let entry : AlarmEntry := ⟨k, i, .raised, s.clock, !s.retained.clockSet, 0⟩
     let change (f : AlarmEntry → AlarmEntry) := l.map fun e => if e.kind = k ∧ e.index = i then f e else e
     let up := (raiseAlarm k i s).alarms
     let down := (endAlarm k i s).alarms
     (found = none → l.length < 32 → up.entries = l ++ [entry] ∧ up.listFull = s.alarms.listFull) ∧
     (found = none → 32 ≤ l.length → (∀ e ∈ l, e.state ≠ .ended) → up.entries = l ∧ up.listFull = true) ∧
     (∀ before e after, found = none → 32 ≤ l.length → l = before ++ e :: after → e.state = .ended →
        (∀ x ∈ before, x.state ≠ .ended) →
        up.entries = before ++ after ++ [entry] ∧ up.listFull = s.alarms.listFull) ∧
     (∀ e, found = some e → e.state = .ended →
        up.entries = change (fun e => { e with state := .raised, repeats := min 65535 (e.repeats + 1) }) ∧
        up.listFull = s.alarms.listFull) ∧
     (∀ e, found = some e → e.state ≠ .ended → up.entries = l ∧ up.listFull = s.alarms.listFull) ∧
     (∀ e, found = some e → e.state = .raised →
        down.entries = change (fun e => { e with state := .ended }) ∧ down.listFull = s.alarms.listFull) ∧
     (∀ e, found = some e → e.state = .standing →
        down.entries = l.filter (fun e => decide ¬(e.kind = k ∧ e.index = i)) ∧ down.listFull = false) ∧
     (∀ e, found = some e → e.state = .ended → down.entries = l ∧ down.listFull = s.alarms.listFull) ∧
     (found = none → down.entries = l ∧ down.listFull = s.alarms.listFull) ∧
     (up.attention = true ↔ ∃ e ∈ up.entries, e.state = .raised ∨ e.state = .ended) ∧
     (down.attention = true ↔ ∃ e ∈ down.entries, e.state = .raised ∨ e.state = .ended) ∧
     (∀ a, { raiseAlarm k i s with alarms := a } = { s with alarms := a }) ∧
     (∀ a, { endAlarm k i s with alarms := a } = { s with alarms := a }))) ∧
  (∀ (k : AlarmKind) (i : Nat) (s : State),
    (let l := s.alarms.entries
     let found := l.find? fun e => decide (e.kind = k ∧ e.index = i)
     let entry : AlarmEntry := ⟨k, i, .ended, s.clock, !s.retained.clockSet, 0⟩
     let t := (momentAlarm k i s).alarms
     (found = none → l.length < 32 → t.entries = l ++ [entry] ∧ t.listFull = s.alarms.listFull) ∧
     (found = none → 32 ≤ l.length → (∀ e ∈ l, e.state ≠ .ended) → t.entries = l ∧ t.listFull = true) ∧
     (∀ before e after, found = none → 32 ≤ l.length → l = before ++ e :: after → e.state = .ended →
        (∀ x ∈ before, x.state ≠ .ended) →
        t.entries = before ++ after ++ [entry] ∧ t.listFull = s.alarms.listFull) ∧
     (∀ e, found = some e → e.state = .ended →
        t.entries = (l.map fun e => if e.kind = k ∧ e.index = i then { e with repeats := min 65535 (e.repeats + 1) }
          else e) ∧ t.listFull = s.alarms.listFull) ∧
     (t.attention = true ↔ ∃ e ∈ t.entries, e.state = .raised ∨ e.state = .ended) ∧
     (∀ a, { momentAlarm k i s with alarms := a } = { s with alarms := a })))

/-- ALARM-ACK and ALARM-ACK-ALL (R175), with R176's clearing of LIST-FULL and R177's ATTENTION: each refusal, and an
entry's acknowledgement by its state. Where a request has both a kind outside the catalogue and an index outside its
range, the model names the kind (log entry 12). -/
def Obligations.Acknowledgements : Prop :=
  (∀ (tag : Byte) (type index kind : Nat) (s : State), Reaches true s →
    (sourceRange type = none →
      exec (.alarmAck tag type index kind) s = .next (answered 0x32 tag (.rejected .badField (some ⟨0, 0, 1⟩)) s)) ∧
    (∀ range, sourceRange type = some range → kindOfCode kind = none →
      exec (.alarmAck tag type index kind) s = .next (answered 0x32 tag (.rejected .badField (some ⟨0, 0, 3⟩)) s)) ∧
    (∀ a b k, sourceRange type = some (a, b) → kindOfCode kind = some k →
      ((index < a ∨ b < index) → exec (.alarmAck tag type index kind) s =
        .next (answered 0x32 tag (.rejected .badField (some ⟨0, 0, 2⟩)) s)) ∧
      (a ≤ index → index ≤ b → k.sourceType ≠ type → exec (.alarmAck tag type index kind) s =
        .next (answered 0x32 tag (.rejected .badField (some ⟨0, 0, 3⟩)) s)) ∧
      (a ≤ index → index ≤ b → k.sourceType = type → s.alarms.lookup k index = none →
        exec (.alarmAck tag type index kind) s = .next (answered 0x32 tag (.rejected .wrongState none) s)) ∧
      (∀ e, a ≤ index → index ≤ b → k.sourceType = type → s.alarms.lookup k index = some e →
        ∃ l, exec (.alarmAck tag type index kind) s = .next (answered 0x32 tag (.accepted []) { s with alarms := l }) ∧
          (l.attention = true ↔ ∃ x ∈ l.entries, x.state = .raised ∨ x.state = .ended) ∧
          (e.state = .raised → l.listFull = s.alarms.listFull ∧ l.entries = s.alarms.entries.map fun x =>
            if x.kind = k ∧ x.index = index then { x with state := .standing } else x) ∧
          (e.state = .ended → l.listFull = false ∧
            l.entries = s.alarms.entries.filter fun x => decide ¬(x.kind = k ∧ x.index = index)) ∧
          (e.state = .standing → l.listFull = s.alarms.listFull ∧ l.entries = s.alarms.entries)))) ∧
  (∀ (tag : Byte) (s : State), Reaches true s →
    (let raised := s.alarms.entries.filter fun e => decide (e.state = .raised)
     let ended := s.alarms.entries.filter fun e => decide (e.state = .ended)
     let kept := s.alarms.entries.filter fun e => decide (e.state ≠ .ended)
     exec (.alarmAckAll tag) s = .next (answered 0x33 tag
      (.accepted (signedBytes 4 (raised.length : Int) ++ signedBytes 4 (ended.length : Int)))
      { s with alarms :=
        { entries := kept.map fun e => { e with state := .standing }
          listFull := s.alarms.listFull && decide (ended = []), attention := false } })))

/-! ### The host link -/

/-- The receiver (R187): a frame begins with C3h alone, its second byte is a count of 2 to 246, its further bytes are
kept until the last, a complete frame whose check fails is discarded, and a CLOSED receiver discards every byte. The
gap's end abandons the frame. The last byte of an answer opens the receiver, or begins the start-up that a RESTART asked
for, as a power-on over the same retained memory would (R186); that it begins at this row, with the strap the row
carries, is how the model reads R186 (log entry 27). That a gap's end outside a frame, and the end of no answer, change
nothing is the model's own arrangement (log entry 1). -/
def Obligations.ReceiverEvents : Prop :=
  ∀ s : State, s.supply = true →
    (let hunting := { s with link := { s.link with receiver := .hunting, buffer := [], gap := none } }
     let receiving (l : List Byte) := { s with link := { s.link with receiver := .receiving, buffer := l, gap := some 0 } }
     (∀ b : Byte, s.link.receiver = .closed → exec (.hostByteReceived b) s = .next s) ∧
     (∀ b : Byte, s.link.receiver = .hunting → b ≠ 0xC3 → exec (.hostByteReceived b) s = .next s) ∧
     (s.link.receiver = .hunting → exec (.hostByteReceived 0xC3) s = .next (receiving [0xC3])) ∧
     (∀ lead b : Byte, s.link.receiver = .receiving → s.link.buffer = [lead] →
        exec (.hostByteReceived b) s =
          .next (if 2 ≤ b.toNat ∧ b.toNat ≤ 246 then receiving [lead, b] else hunting)) ∧
     (∀ (lead count b : Byte) (l : List Byte), s.link.receiver = .receiving → s.link.buffer = lead :: count :: l →
        l.length + 3 < count.toNat + 4 →
        exec (.hostByteReceived b) s = .next (receiving (lead :: count :: l ++ [b]))) ∧
     (∀ (lead count b1 b0 : Byte) (l : List Byte), s.link.receiver = .receiving →
        s.link.buffer = lead :: count :: l ++ [b1] → l.length = count.toNat →
        wordBytes (crc16 (lead :: count :: l)) ≠ [b1, b0] → exec (.hostByteReceived b0) s = .next hunting) ∧
     (s.link.receiver = .receiving → exec .frameGapTimeout s = .next hunting) ∧
     (s.link.receiver ≠ .receiving → exec .frameGapTimeout s = .next s) ∧
     (∀ strap : Bool, s.link.answer = none → exec (.answerSent strap) s = .next s) ∧
     (∀ strap : Bool, s.link.answer.isSome = true → s.link.restarting = false →
        exec (.answerSent strap) s = .next { hunting with link := { hunting.link with answer := none } }) ∧
     (∀ strap : Bool, s.link.answer.isSome = true → s.link.restarting = true →
        exec (.answerSent strap) s = exec (.powerOn true strap) { s with supply := false }))

/-- Requests that are not taken, or are held back before they reach a block (R187, R188). One that arrives while the
receiver is CLOSED, or the part without supply, changes nothing. The last byte of a frame with a good check is answered
UNKNOWN where its code is not in the catalogue, and BAD-FIELD with field 0 where its body has not the length that its
request's fields give it, in every state of the part; a TABLE-WRITE whose entries do not fit its table is such a
request (to a table that does not exist: log entry 11). An acting request in START-UP is refused with BUSY, and one not
marked as taken in UNCONFIGURED is refused there with UNCONFIGURED, whatever its fields; none has any effect but its
answer. That the BUSY of a TABLE-COMMIT carries no field index is how the model reads R188 (log entry 14), that a
request without supply changes nothing its own arrangement (log entry 17), that the frame buffer empties as a request is
taken its choice (log entry 65), and that the two acknowledgements are BUSY in START-UP its choice between R175 and R188
(log entry 32). -/
def Obligations.RequestsHeldBack : Prop :=
  (∀ (i : Instr) (parts : Byte × Byte × List Byte) (s : State), requestParts i = some parts → ¬Listens s →
    exec i s = .next s) ∧
  (∀ (b code tag : Byte) (body : List Byte) (s : State), s.supply = true → s.link.receiver = .receiving →
    body.length ≤ 244 → s.link.buffer ++ [b] = requestFrame code tag body →
    (¬InCatalogue code → exec (.hostByteReceived b) s = .next (answered code tag (.rejected .unknown none) s)) ∧
    (InCatalogue code → ¬BodyFits code body →
      exec (.hostByteReceived b) s = .next (answered code tag (.rejected .badField (some ⟨0, 0, 0⟩)) s))) ∧
  (∀ (tag : Byte) (no first : Nat) (es : List (List Int)) (s : State), Listens s →
    ((tableSize no).1 ≠ 0 ∧ ∃ e ∈ es, e.length ≠ (tableSize no).2) →
    exec (.tableWrite tag no first es) s = .next (answered 0x22 tag (.rejected .badField (some ⟨0, 0, 0⟩)) s)) ∧
  (∀ (i : Instr) (code tag : Byte) (body : List Byte) (s : State), requestParts i = some (code, tag, body) →
    0x21 ≤ code.toNat → Listens s → (∀ t no first es, i = .tableWrite t no first es → entriesFit no es = true) →
    (s.part = .startUp → exec i s = .next (answered code tag (.rejected .busy none) s)) ∧
    (s.part = .unconfigured → code ∉ ([0x21, 0x22, 0x23, 0x24, 0x32, 0x33, 0x35] : List Byte) →
      exec i s = .next (answered code tag (.rejected .unconfigured none) s)))

/-- The reads of the whole part (R24, R152, R192, R197) and those that name one thing (R14, R49, R117, R139, R152): a
number outside its range is refused with BAD-FIELD at field 1, and every other read is answered in every state of the
part. Nothing changes either way. -/
def Obligations.ReadsChangeNothing : Prop :=
  ∀ (tag : Byte) (s : State), Listens s →
    exec (.yardStatus tag) s = .next (answered 0x01 tag (.accepted (yardBody s)) s) ∧
    exec (.contactRead tag) s = .next (answered 0x04 tag (.accepted (contactBody s)) s) ∧
    exec (.lineResult tag) s = .next (answered 0x08 tag (.accepted (resultBody s)) s) ∧
    (let part : Byte := match s.part with | .startUp => 0 | .unconfigured => 1 | .run => 2
     exec (.clockRead tag) s = .next (answered 0x0B tag (.accepted (signedBytes 4 (s.clock.day : Int) ++
      signedBytes 4 (s.clock.second : Int) ++ [if s.retained.clockSet then 1 else 0, part])) s)) ∧
    (∀ h : HolderId, exec (.holderRead tag (number h)) s = .next (answered 0x02 tag (.accepted (holderBody s h)) s)) ∧
    (∀ c : ChannelId, exec (.channelRead tag c.val) s = .next (answered 0x03 tag (.accepted (channelBody s c)) s)) ∧
    (∀ p : PulseId, exec (.meterRead tag p.val) s = .next (answered 0x05 tag (.accepted (meterBody s p)) s)) ∧
    (∀ d : DistrictId,
      exec (.districtRead tag (number d)) s = .next (answered 0x06 tag (.accepted (districtBody s d)) s)) ∧
    (∀ n : StationId,
      exec (.stationRead tag (number n)) s = .next (answered 0x07 tag (.accepted (stationBody s n)) s)) ∧
    (∀ n : Nat,
      (let bad (code : Byte) : Host.Outcome State Fault Refusal :=
        .next (answered code tag (.rejected .badField (some ⟨0, 0, 1⟩)) s)
       ((n = 0 ∨ 4 < n) → exec (.holderRead tag n) s = bad 0x02 ∧ exec (.districtRead tag n) s = bad 0x06) ∧
       (20 < n → exec (.channelRead tag n) s = bad 0x03) ∧ (5 < n → exec (.meterRead tag n) s = bad 0x05) ∧
       ((n = 0 ∨ 8 < n) → exec (.stationRead tag n) s = bad 0x07)))

/-- The reads of lists (R166, R178, R189): the oldest account record or the one named, up to 16 alarm entries from a
position of 1 to 32, and table entries of either copy as far as one answer body holds; each refusal at its field.
Nothing changes. The fields at which TABLE-READ is refused, and its refusal of a copy above 1, are how the model numbers
them (log entry 14). -/
def Obligations.ListReads : Prop :=
  (∀ (tag : Byte) (s : State), Listens s →
    exec (.accountRead tag none) s = .next (answered 0x0A tag (.accepted (accountBody s s.account.queue.head?)) s) ∧
    (∀ (q : Nat) (r : Record), s.account.queue.find? (fun x => decide (x.sequence = q)) = some r →
      exec (.accountRead tag (some q)) s = .next (answered 0x0A tag (.accepted (accountBody s (some r))) s)) ∧
    (∀ q : Nat, (∀ x ∈ s.account.queue, x.sequence ≠ q) → exec (.accountRead tag (some q)) s =
      .next (answered 0x0A tag (.rejected .badField (some ⟨0, 0, 1⟩)) s)) ∧
    (∀ n : Nat, 1 ≤ n → n ≤ 32 →
      (let shown := (s.alarms.entries.drop (n - 1)).take 16
       exec (.alarmRead tag n) s = .next (answered 0x09 tag (.accepted
        ([BitVec.ofNat 8 s.alarms.entries.length, flagByte s.alarms.listFull, flagByte s.alarms.attention,
          BitVec.ofNat 8 shown.length] ++ shown.flatMap alarmItems)) s))) ∧
    (∀ n : Nat, (n = 0 ∨ 32 < n) → exec (.alarmRead tag n) s =
      .next (answered 0x09 tag (.rejected .badField (some ⟨0, 0, 1⟩)) s))) ∧
  (∀ (tag : Byte) (copy no first count : Nat) (s : State), Listens s →
    (let bad (field : Nat) : Host.Outcome State Fault Refusal :=
      .next (answered 0x0C tag (.rejected .badField (some ⟨0, 0, field⟩)) s)
     let read := exec (.tableRead tag copy no first count) s
     (1 < copy → read = bad 1) ∧
     (copy ≤ 1 → (no = 0 ∨ 12 < no) → read = bad 2) ∧
     (copy ≤ 1 → 1 ≤ no → no ≤ 12 → (tableSize no).1 ≤ first → read = bad 3) ∧
     (copy ≤ 1 → 1 ≤ no → no ≤ 12 → first < (tableSize no).1 → (count = 0 ∨ (tableSize no).1 < first + count) →
        read = bad 4) ∧
     (copy ≤ 1 → 1 ≤ no → no ≤ 12 → 1 ≤ count → first + count ≤ (tableSize no).1 →
        read = if 243 < 4 * (tableSize no).2 * count then bad 4
          else .next (answered 0x0C tag (.accepted ((List.range count).flatMap fun i =>
            ((if copy = 0 then s.tables else s.staged).entry no (first + i)).flatMap (signedBytes 4))) s))))

/-- The lengths of the bodies that R196 and R197 lay out, for every state: 73 bytes for HOLDER-READ and for
YARD-STATUS, 72 for CONTACT-READ, and four bytes and twelve an entry for
ALARM-READ; an account record takes 36 bytes and 5 or 10 a district (R195). -/
def Obligations.BodyLengths : Prop :=
  (∀ (h : HolderId) (s : State), (holderBody s h).length = 73) ∧
  (∀ s : State, (yardBody s).length = 73) ∧
  (∀ s : State, (contactBody s).length = 72) ∧
  (∀ (n : Nat) (s : State), (alarmBody s n).length = 4 + 12 * min 16 (s.alarms.entries.length - (n - 1))) ∧
  (∀ r : Record, r.bytes.length = 36 + (if r.dayRecord then 10 else 5) * r.districts.length)

/-- TABLE-WRITE and TABLE-DISCARD (R189). A write within its table puts every entry as given into the staged copy, where
TABLE-READ finds it, and touches no other entry; its refusals name the table, the first index and the count. A discard
makes the staged copy the active one. Neither changes anything else. That a write to a table that does not exist is
refused at field 1, whatever its entries, is the model's choice (log entry 11). -/
def Obligations.TableWriteAndDiscard : Prop :=
  (∀ (tag : Byte) (no first : Nat) (es : List (List Int)) (s : State), Reaches true s →
    ((no = 0 ∨ 12 < no) → exec (.tableWrite tag no first es) s =
      .next (answered 0x22 tag (.rejected .badField (some ⟨0, 0, 1⟩)) s)) ∧
    (1 ≤ no → no ≤ 12 → (∀ e ∈ es, e.length = (tableSize no).2) →
      ((tableSize no).1 ≤ first → exec (.tableWrite tag no first es) s =
        .next (answered 0x22 tag (.rejected .badField (some ⟨0, 0, 2⟩)) s)) ∧
      (first < (tableSize no).1 → (es = [] ∨ (tableSize no).1 < first + es.length) →
        exec (.tableWrite tag no first es) s =
          .next (answered 0x22 tag (.rejected .badField (some ⟨0, 0, 3⟩)) s)) ∧
      (es ≠ [] → first + es.length ≤ (tableSize no).1 →
        ∃ staged : Tables, exec (.tableWrite tag no first es) s =
            .next (answered 0x22 tag (.accepted []) { s with staged := staged }) ∧
          (∀ i e, es[i]? = some e → staged.entry no (first + i) = e) ∧
          (∀ no' i, (no' ≠ no ∨ i < first ∨ first + es.length ≤ i) → staged.entry no' i = s.staged.entry no' i)))) ∧
  (∀ (tag : Byte) (s : State), Reaches true s →
    exec (.tableDiscard tag) s = .next (answered 0x24 tag (.accepted []) { s with staged := s.tables }))

/-- A refused TABLE-COMMIT (R190) changes neither copy and no block: BUSY naming table 6 while a configured valve
travels, 12 while a changeover or SETTLE record stands, 7 while a check is active, in that order. Otherwise the staged
copy is checked as `StagedFails` gives the checks, field by field with the figures of their chapters (R11, R21, R43 to
R45, R69, R96, R114, R136, R153, R170), and BAD-FIELD names the first failure in the order of tables, entries and
checks. A staged copy that fails none has no fault, and the commit goes on. -/
def Obligations.RefusedCommit : Prop :=
  ∀ (tag : Byte) (s : State), Reaches true s →
    (let busy (table : Nat) : Host.Outcome State Fault Refusal :=
      .next (answered 0x23 tag (.rejected .busy (some ⟨table, 0, 0⟩)) s)
     let travel := ∃ v : ValveId, s.tables.valveOn v = true ∧
      (s.valves[v].state = .opening ∨ s.valves[v].state = .closing)
     let planBusy := s.plan.record.isSome = true ∨ s.plan.settle.isSome = true
     let checkBusy := s.check.state = .armed ∨ s.check.state = .running
     (travel → exec (.tableCommit tag) s = busy 6) ∧ (¬travel → planBusy → exec (.tableCommit tag) s = busy 12) ∧
     (¬travel → ¬planBusy → checkBusy → exec (.tableCommit tag) s = busy 7) ∧
     (¬travel → ¬planBusy → ¬checkBusy →
      (∀ no i k : Nat, StagedFails s no i k →
        (∀ no' i' k', StagedFails s no' i' k' →
          no < no' ∨ no = no' ∧ (i < i' ∨ i = i' ∧ k ≤ k')) →
        exec (.tableCommit tag) s =
          .next (answered 0x23 tag (.rejected .badField (some ⟨no, i, checkedField no k⟩)) s)) ∧
      ((∀ no i k, ¬StagedFails s no i k) →
        stagedFault s = none ∧ ∃ t, exec (.tableCommit tag) s = .next t ∧ t.tables = s.staged ∧ t.staged = s.staged)))

/-- A TABLE-COMMIT that passes every check (R191): the staged copy becomes the active one and stays, the configured mark
is set, a part in UNCONFIGURED enters RUN, and a RUNNING Account Unit closes its hour with CONFIG-CHANGED, and its day
where the gas day's start changes (R168); it, or a unit that starts, has an hour open from the present clock time. Every
record is brought to the new tables: channels (R12), with value and smoothed value 0 for one enabled afresh, contact
points (R22), holders (R46), controls and valves (R70), meters (R115), stations (R154) and districts (R137). A valve
configured afresh takes the pairs last delivered (log entry 24), and a station configured afresh leaves what is left of
the round list (log entry 42); a district taken out of use has its start-up values in every field (log entry 56). A
valve configured before and after is kept, but for an order that the plan or protection gives it, or is judged where its
contacts were delivered. The plan derives its roles as RolesDerived says (R94, R97): a holder that keeps its role's
valve OPEN keeps the role, surplus valves form a SETTLE record, and the derivation touches neither mark. The clock, the
orders of preference, the return lines, the rest of the line, the check and the start-up are untouched. -/
def Obligations.CommitPutsTheStagedCopyToUse : Prop :=
  (∀ (tag : Byte) (s : State), Reaches true s →
    (∀ v : ValveId, s.tables.valveOn v = true → s.valves[v].state ≠ .opening ∧ s.valves[v].state ≠ .closing) →
    s.plan.record = none → s.plan.settle = none → s.check.state ≠ .armed → s.check.state ≠ .running →
    stagedFault s = none →
    (let was := s.tables
     let now := s.staged
     ∃ t, exec (.tableCommit tag) s = .next t ∧ t.tables = now ∧ t.staged = now ∧
      t.retained.configured = true ∧ t.part = .run ∧ t.clock = s.clock ∧ t.retained.clockSet = s.retained.clockSet ∧
      t.retained.fillOrder = s.retained.fillOrder ∧ t.retained.sendOrder = s.retained.sendOrder ∧
      (s.account.running = true ∨ s.retained.clockSet = true →
        t.account.running = true ∧ ∃ h, t.account.hour = some h ∧ h.start = s.clock ∧ h.elapsed = 0) ∧
      (∀ (h : Hour) (d : Day), s.account.running = true → s.account.hour = some h → s.account.day = some d →
        s.account.queue.length < 63 →
        ∃ r : Record, HourFiled s h h.elapsed Flags.ofConfigChanged t r ∧ r.flags.configChanged = true ∧
          (was.account.gasDayStart = now.account.gasDayStart → t.account.queue = s.account.queue ++ [r]) ∧
          (was.account.gasDayStart ≠ now.account.gasDayStart → ∃ x : Record,
            DayFiled d d.elapsed Flags.ofConfigChanged r x ∧ x.flags.configChanged = true ∧
            t.account.queue = s.account.queue ++ [r, x])) ∧
      (∀ c : ChannelId,
        let e := was.channel[c]
        let e' := now.channel[c]
        let r := s.channels[c]
        let r' := t.channels[c]
        (e = e' → r' = r) ∧
        (e.enabled = 1 → e'.enabled ≠ 1 →
          r' = { r with status := .off, fault := .noFault, age := 0, lastGood := none, seed := true }) ∧
        (e.enabled ≠ 1 → e'.enabled = 1 →
          r' = { r with value := 0, smoothed := 0, status := .stale, fault := .noFault, age := 0, lastGood := none
                        seed := true }) ∧
        (e.enabled = 1 → e'.enabled = 1 →
          r' = { r with value := r'.value, smoothed := r'.smoothed, status := r'.status } ∧
          (∀ n, (e.zero ≠ e'.zero ∨ e.span ≠ e'.span) → r.lastGood = some n → r'.smoothed = r'.value ∧
            r'.value =
              clamp e'.zero (e'.zero + e'.span) (e'.zero + roundDiv (((n : Int) - 10923) * e'.span) 43690)) ∧
          ((e.zero = e'.zero ∧ e.span = e'.span ∨ r.lastGood = none) →
            r'.value = r.value ∧ r'.smoothed = r.smoothed) ∧
          (e.staleLimit ≠ e'.staleLimit → 0 < r.age → r.lastGood ≠ none →
            r'.status = if (r.age : Int) ≤ 4 * e'.staleLimit then .held else .stale) ∧
          (e.staleLimit = e'.staleLimit ∨ r.age = 0 ∨ r.lastGood = none → r'.status = r.status))) ∧
      (∀ k : PointId, was.contact[k] ≠ now.contact[k] →
        (t.points[k].active = true ↔ s.points[k].debounced =
          some (if now.contact[k].polarity = 1 then Reading.broken else Reading.made))) ∧
      (∀ h : HolderId,
        let r := s.holders[h]
        let r' := t.holders[h]
        let l := now.limit[h]
        let top := (now.lifts h).map LiftEntry.travel
        let stands (x : Bool) : Bool := was.holderOn h && x
        (now.holderOn h = false → r' = HolderRec.startUp (capacityOf (now.lifts h))) ∧
        (now.holderOn h = true →
          r'.capacity = capacityOf (now.lifts h) ∧
          (r'.usable = true ↔ t.channels[heightChannel h].status = .valid ∨ t.channels[heightChannel h].status = .held) ∧
          (r'.usable = true →
            r'.height = clamp 0 top.sum t.channels[heightChannel h].smoothed ∧
            r'.volume = volumeAt (now.lifts h) r'.height ∧
            r'.stock = stdVolume r'.volume (t.channels[barometer].figure 101325) r'.pressure
              (t.channels[temperatureChannel h].figure 1500) ∧
            (r'.high = true ↔ if stands r.high then l.high - l.hysteresis ≤ r'.height else l.high ≤ r'.height) ∧
            (r'.low = true ↔ if stands r.low then r'.height ≤ l.low + l.hysteresis else r'.height ≤ l.low)) ∧
          (was.holderOn h = true → r'.usable = false →
            r'.volume = clamp 0 (capacityOf (now.lifts h)) r.volume ∧ r'.stock = r.stock ∧ r'.height = r.height ∧
            r'.high = r.high ∧ r'.low = r.low)) ∧
        (was.holderOn h = now.holderOn h → t.controls[h].control = s.controls[h].control) ∧
        (was.holderOn h ≠ now.holderOn h → t.controls[h] = HolderControl.startUp)) ∧
      (∀ v : ValveId, now.valveOn v = false → was.valveOn v = true → t.valves[v] = Valve.startUp false) ∧
      (∀ v : ValveId, was.valveOn v = true → now.valveOn v = true →
        (let x := s.valves[v]
         let x' := t.valves[v]
         (∀ k : PointId, now.contact[k].unit = (number v : Int) →
          (let pair : Pair := ⟨t.points[k].active, t.points[k].valid⟩
           (now.contact[k].watch = 1 →
            x'.openContact = if was.contact[k] = now.contact[k] then x.openContact else pair) ∧
           (now.contact[k].watch = 2 →
            x'.shutContact = if was.contact[k] = now.contact[k] then x.shutContact else pair))) ∧
         (was.contact = now.contact → (∀ h : HolderId, s.controls[h].queue = []) →
          ∃ orders : List (Direction × Originator),
            (∀ o ∈ orders, o.2 = .plan ∨ o = (.toClose, .protection)) ∧
            x' = (orders.foldl (fun u o => (carryOut v o.1 o.2 u).1) s).valves[v]))) ∧
      ((∀ h : HolderId, s.controls[h].queue = []) →
        (∀ h, t.plan.send = some h → now.holderOn h = true ∧ stateOf t (outletOf h) ≠ .closed) ∧
        (∀ h, t.plan.fill = some h → now.isStore h = true ∧ stateOf t (inletOf h) ≠ .closed) ∧
        (∀ h, s.plan.send = some h → stateOf t (outletOf h) = .opened → t.plan.send = some h) ∧
        (∀ h, s.plan.fill = some h → now.isStore h = true → stateOf t (inletOf h) = .opened → t.plan.fill = some h) ∧
        (∀ l, t.plan.settle = some l → t.plan.record = none ∧ t.plan.sendMark = s.plan.sendMark ∧
          t.plan.fillMark = s.plan.fillMark ∧ ∀ v ∈ l, stateOf t v ≠ .closed)) ∧
      (∀ p : PulseId,
        let m := s.meters[p]
        let m' := t.meters[p]
        (was.meterOn p = false → now.meterOn p = false → m' = m) ∧
        (was.meterOn p ≠ now.meterOn p → m' = Meter.startUp) ∧
        (was.meterOn p = true → now.meterOn p = true →
          m'.counter = 0 ∧ m'.stage = false ∧ m'.saturated = false ∧ m'.full = false ∧
          (was.meter[p].pulseVolume = now.meter[p].pulseVolume →
            m'.interval = m.interval ∧ m'.lastInterval = m.lastInterval ∧ m'.lastFull = m.lastFull) ∧
          (was.meter[p].pulseVolume ≠ now.meter[p].pulseVolume →
            m'.interval = none ∧ m'.lastInterval = none ∧ m'.lastFull = none))) ∧
      (∀ n : StationId,
        let e := was.station[n]
        let e' := now.station[n]
        let r := s.stations[n]
        let kept : Station := if e.district = e'.district then r
          else { r with reading := none, freshness := .noReading, lastGating := none }
        (was.stationOn n = false → now.stationOn n = false → t.stations[n] = r) ∧
        (was.stationOn n ≠ now.stationOn n → t.stations[n] = Station.startUp) ∧
        (was.stationOn n = true → now.stationOn n = true →
          (e.staleLimit = e'.staleLimit → t.stations[n] = kept) ∧
          (e.staleLimit ≠ e'.staleLimit → t.stations[n] = { kept with freshness :=
            if kept.reading = none then .noReading else if (kept.age : Int) ≤ e'.staleLimit then .fresh else .stale }))) ∧
      (∀ d : DistrictId,
        let e' := now.district[d]
        let cap := min e'.maxOut (e'.maxPoint - roundDiv (e'.elevation * e'.gain) 100)
        (was.districtOn d = true → now.districtOn d = false →
          t.districts[d] = districtStartUp now d ∧ t.retained.trims[d] = 0) ∧
        (was.districtOn d = false → now.districtOn d = true →
          t.retained.trims[d] = 0 ∧ t.districts[d].trimBefore = none ∧ t.districts[d].lastDecision = none ∧
          t.districts[d].driven = true ∧ t.districts[d].frozen = t.plan.freeze) ∧
        (was.districtOn d = true → now.districtOn d = true →
          (was.district[d].station ≠ e'.station →
            t.retained.trims[d] = 0 ∧ t.districts[d].lastDecision = none) ∧
          (was.district[d].station = e'.station →
            t.retained.trims[d] = clamp (-e'.trimLimit) e'.trimLimit s.retained.trims[d] ∧
            t.districts[d].lastDecision = s.districts[d].lastDecision) ∧
          (s.press.begun = true → t.districts[d].setpoint =
            if t.districts[d].frozen then clamp 0 cap s.districts[d].setpoint
            else min (clamp 0 cap s.districts[d].setpoint) t.press.available))) ∧
      t.line = { s.line with roundList := s.line.roundList.filter fun n => was.stationOn n || !now.stationOn n } ∧
      t.returns = s.returns ∧ t.check = s.check ∧ t.startUp = s.startUp ∧ t.supply = s.supply ∧
      t.pending = s.pending ∧ t.link = (answered 0x23 tag (.accepted []) s).link)) ∧
  (∀ s : State, (∀ h : HolderId, s.controls[h].queue = []) → RolesDerived s (deriveRoles s)) ∧
  (∀ (v : ValveId) (ds : List Delivery) (s : State), s.tables.valveOn v = true →
    (let delivered : Prop := ∃ d ∈ ds, d.use = .valveOpen v ∨ d.use = .valveShut v
     (¬delivered → commitValve true ds v s = s) ∧
     (delivered → s.valves[v].state ≠ .opening → s.valves[v].state ≠ .closing →
      (commitValve true ds v s).valves = s.valves.set v s.valves[v].judged))) ∧
  (∀ (v : ValveId) (ds : List Delivery) (s : State), s.tables.valveOn v = true →
    (let fresh : Valve :=
      { Valve.startUp true with openContact := usePair s (.valveOpen v), shutContact := usePair s (.valveShut v) }
     let put := { s with valves := s.valves.set v fresh }
     let limit : Bool := if isInlet v then s.holders[ownerOf v].top else s.holders[ownerOf v].bottom
     let t := commitValve false ds v s
     (∀ w : ValveId, w ≠ v → t.valves[w] = s.valves[w]) ∧
     t.valves[v].openContact = fresh.openContact ∧ t.valves[v].shutContact = fresh.shutContact ∧
     ((limit = false ∨ derivedState put v = .closed ∨ fresh.position = .contradictory) →
        t.valves[v].state = derivedState put v ∧ t.valves[v].drive = .undriven) ∧
     (limit = true → derivedState put v ≠ .closed → fresh.position ≠ .contradictory →
        t.valves[v].state = .closing ∧ t.valves[v].originator = .protection) ∧
     (limit = false → derivedState put v = .fault → t.alarms.Told .valveFault (number v))))

/-- RESTART (R186): refused with BUSY while a configured valve travels; otherwise DONE, and the start-up waits for the
last byte of the answer. -/
def Obligations.Restart : Prop :=
  ∀ (tag : Byte) (s : State), Reaches true s →
    ((∃ v : ValveId, s.tables.valveOn v = true ∧ (s.valves[v].state = .opening ∨ s.valves[v].state = .closing)) →
      exec (.restart tag) s = .next (answered 0x35 tag (.rejected .busy none) s)) ∧
    ((∀ v : ValveId, s.tables.valveOn v = true → s.valves[v].state ≠ .opening ∧ s.valves[v].state ≠ .closing) →
      exec (.restart tag) s = .next (answered 0x35 tag (.accepted [])
        { s with link := { s.link with restarting := true } }))

/-! ### Frames and requests -/

/-- Every well-formed request is read back from the code, tag and body it is spelled with: no field is dropped or
confused with another. A TABLE-WRITE is one to a table that exists, with entries of that table's length. -/
def Obligations.RequestsReadBack : Prop :=
  ∀ (i : Instr) (code tag : Byte) (body : List Byte), i.wf = true → requestParts i = some (code, tag, body) →
    (∀ t no first es, i = .tableWrite t no first es → 0 < (tableSize no).1 ∧ entriesFit no es = true) →
    readRequest code tag body = .request i

/-- The bytes of a well-formed request's frame, received one after another by a part that is hunting, come to the
request itself at the frame's last byte; the buffer is empty from then on, as the model chooses (log entry 65). -/
def Obligations.FrameBytesRunTheRequest : Prop :=
  ∀ (i : Instr) (code tag : Byte) (body : List Byte) (s : State), i.wf = true →
    requestParts i = some (code, tag, body) →
    (∀ t no first es, i = .tableWrite t no first es → 0 < (tableSize no).1 ∧ entriesFit no es = true) →
    s.supply = true → s.link.receiver = .hunting →
    runAll ((requestFrame code tag body).map Instr.hostByteReceived) s =
      exec i { s with link := { s.link with
        receiver := .receiving, buffer := (requestFrame code tag body).dropLast, gap := some 0 } }

/-! ### Invariants -/

/-- Every step keeps the alarm list sound: at most 32 entries, none twice, ATTENTION as R177 judges it, LIST-FULL only
over a full list. -/
def Obligations.StepsKeepTheAlarmList : Prop :=
  ∀ s t : State, s.alarms.Sound → step s = .next t → t.alarms.Sound

/-- Every step keeps every valve, order queue and the booster coherent: a valve is driven and timed exactly while it
travels, no queue passes 8 entries or stands under AUTO, and the run line follows the booster's state. -/
def Obligations.StepsKeepTheYard : Prop :=
  ∀ s t : State, YardSound s → step s = .next t → YardSound t

/-- Every step keeps the counts and the accounts sound: the clock in its range, every window and interval within its
counter, the check's timers with its state, and the account queue: at most 64 records, each with the signature of its
own bytes and the previous signature it carries, which its bytes end with (log entry 23), the newest being the one the
next record chains on. A check word that fits retained memory goes on fitting it, since every write refreshes it
(R180). -/
def Obligations.StepsKeepCountsAndAccounts : Prop :=
  (∀ s t : State, CountsSound s → s.account.Sound → step s = .next t → CountsSound t ∧ t.account.Sound) ∧
  (∀ s t : State, s.retained.checkGood = true → step s = .next t → t.retained.checkGood = true)

/-- Every step keeps the two lines sound: the outstation line's state fits its ask and every station its misses, and the
host link is CLOSED exactly while an answer leaves. -/
def Obligations.StepsKeepTheLines : Prop :=
  ∀ s t : State, LineSound s → LinkSound s → step s = .next t → LineSound t ∧ LinkSound t

/-- Every step keeps the plan sound: between events nothing waits to be taken, no changeover stands beside a SETTLE
record, the plan stands at its start-up values until the derivation, and from then on MAKE-HOLD is asserted exactly
while no configured inlet is OPEN. -/
def Obligations.StepsKeepThePlan : Prop :=
  ∀ s t : State, LineSound s → PlanSound s → step s = .next t → PlanSound t

/-- The part right after its first power-on is sound in every one of these ways. -/
def Obligations.ResetIsSound : Prop :=
  State.reset.alarms.Sound ∧ YardSound State.reset ∧ CountsSound State.reset ∧ State.reset.account.Sound ∧
  LineSound State.reset ∧ LinkSound State.reset ∧ PlanSound State.reset
end

