-- ==== Sys2Proof/Laws/State.lean ====
section
/-! SUPPORT. Laws/State.lean: what each update of State leaves in each field, so that no proof unfolds an update. -/

namespace Sys2Proof.Machine

/-! ### Banks -/

@[simp] theorem bank_set_get {α : Type} {n : Nat} (v : Vector α n) (i j : Fin n) (x : α) :
    (v.set i x)[j.val] = if i = j then x else v[j.val] := by
  rw [Vector.getElem_set]
  simp only [Fin.ext_iff]

theorem bank_upd_get {α : Type} {n : Nat} (v : Vector α n) (i j : Fin n) (f : α → α) :
    (upd v i f)[j] = if i = j then f v[i] else v[j] := by
  simp only [upd, Fin.getElem_fin, bank_set_get]

/-- A bank with an entry put back as it was is the bank. -/
theorem bank_set_same {α : Type} {n : Nat} (v : Vector α n) (i : Fin n) : v.set i v[i] = v := by
  simp

/-- Banks agree when every entry does. -/
theorem bank_ext {α : Type} {n : Nat} {v w : Vector α n} (h : ∀ i : Fin n, v[i] = w[i]) : v = w :=
  Vector.ext fun i hi => h ⟨i, hi⟩

/-- A bank rebuilt from its own entries is the bank. -/
theorem bank_ofFn_same {α : Type} {n : Nat} (v : Vector α n) : (Vector.ofFn fun i : Fin n => v[i]) = v :=
  bank_ext fun i => by simp

/-! ### Retained memory's check word (R180) -/

namespace Retained

@[simp] theorem written_clock (r : Retained) : r.written.clock = r.clock := rfl
@[simp] theorem written_clockSet (r : Retained) : r.written.clockSet = r.clockSet := rfl
@[simp] theorem written_configured (r : Retained) : r.written.configured = r.configured := rfl
@[simp] theorem written_tables (r : Retained) : r.written.tables = r.tables := rfl
@[simp] theorem written_account (r : Retained) : r.written.account = r.account := rfl
@[simp] theorem written_trims (r : Retained) : r.written.trims = r.trims := rfl
@[simp] theorem written_fillOrder (r : Retained) : r.written.fillOrder = r.fillOrder := rfl
@[simp] theorem written_sendOrder (r : Retained) : r.written.sendOrder = r.sendOrder := rfl
@[simp] theorem written_word (r : Retained) : r.written.word = r.word := rfl
@[simp] theorem written_checkWord (r : Retained) : r.written.checkWord = r.word := rfl
@[simp] theorem written_written (r : Retained) : r.written.written = r.written := rfl

/-- A write leaves a good check word. -/
@[simp] theorem written_checkGood (r : Retained) : r.written.checkGood = true := by simp [checkGood]

/-- Memory whose check word is good is what a write of its contents makes. -/
theorem written_of_checkGood {r : Retained} (h : r.checkGood = true) : r.written = r := by
  have : r.checkWord = r.word := by simpa [checkGood] using h
  simp [written, ← this]

end Retained

namespace State

/-! ### setChannel -/

@[simp] theorem setChannel_supply (s : State) (c : ChannelId) (r : Channel) :
    (s.setChannel c r).supply = s.supply := rfl
@[simp] theorem setChannel_part (s : State) (c : ChannelId) (r : Channel) : (s.setChannel c r).part = s.part := rfl
@[simp] theorem setChannel_retained (s : State) (c : ChannelId) (r : Channel) :
    (s.setChannel c r).retained = s.retained := rfl
@[simp] theorem setChannel_staged (s : State) (c : ChannelId) (r : Channel) :
    (s.setChannel c r).staged = s.staged := rfl
@[simp] theorem setChannel_startUp (s : State) (c : ChannelId) (r : Channel) :
    (s.setChannel c r).startUp = s.startUp := rfl
@[simp] theorem setChannel_channels (s : State) (c : ChannelId) (r : Channel) :
    (s.setChannel c r).channels = s.channels.set c r := rfl
@[simp] theorem setChannel_points (s : State) (c : ChannelId) (r : Channel) :
    (s.setChannel c r).points = s.points := rfl
@[simp] theorem setChannel_returns (s : State) (c : ChannelId) (r : Channel) :
    (s.setChannel c r).returns = s.returns := rfl
@[simp] theorem setChannel_holders (s : State) (c : ChannelId) (r : Channel) :
    (s.setChannel c r).holders = s.holders := rfl
@[simp] theorem setChannel_controls (s : State) (c : ChannelId) (r : Channel) :
    (s.setChannel c r).controls = s.controls := rfl
@[simp] theorem setChannel_valves (s : State) (c : ChannelId) (r : Channel) :
    (s.setChannel c r).valves = s.valves := rfl
@[simp] theorem setChannel_plan (s : State) (c : ChannelId) (r : Channel) : (s.setChannel c r).plan = s.plan := rfl
@[simp] theorem setChannel_meters (s : State) (c : ChannelId) (r : Channel) :
    (s.setChannel c r).meters = s.meters := rfl
@[simp] theorem setChannel_check (s : State) (c : ChannelId) (r : Channel) : (s.setChannel c r).check = s.check := rfl
@[simp] theorem setChannel_districts (s : State) (c : ChannelId) (r : Channel) :
    (s.setChannel c r).districts = s.districts := rfl
@[simp] theorem setChannel_press (s : State) (c : ChannelId) (r : Channel) : (s.setChannel c r).press = s.press := rfl
@[simp] theorem setChannel_booster (s : State) (c : ChannelId) (r : Channel) :
    (s.setChannel c r).booster = s.booster := rfl
@[simp] theorem setChannel_stations (s : State) (c : ChannelId) (r : Channel) :
    (s.setChannel c r).stations = s.stations := rfl
@[simp] theorem setChannel_line (s : State) (c : ChannelId) (r : Channel) : (s.setChannel c r).line = s.line := rfl
@[simp] theorem setChannel_alarms (s : State) (c : ChannelId) (r : Channel) :
    (s.setChannel c r).alarms = s.alarms := rfl
@[simp] theorem setChannel_link (s : State) (c : ChannelId) (r : Channel) : (s.setChannel c r).link = s.link := rfl
@[simp] theorem setChannel_pending (s : State) (c : ChannelId) (r : Channel) :
    (s.setChannel c r).pending = s.pending := rfl
@[simp] theorem setChannel_tables (s : State) (c : ChannelId) (r : Channel) :
    (s.setChannel c r).tables = s.tables := rfl
@[simp] theorem setChannel_account (s : State) (c : ChannelId) (r : Channel) :
    (s.setChannel c r).account = s.account := rfl
@[simp] theorem setChannel_clock (s : State) (c : ChannelId) (r : Channel) : (s.setChannel c r).clock = s.clock := rfl

/-! ### setHolder -/

@[simp] theorem setHolder_supply (s : State) (h : HolderId) (r : HolderRec) :
    (s.setHolder h r).supply = s.supply := rfl
@[simp] theorem setHolder_part (s : State) (h : HolderId) (r : HolderRec) : (s.setHolder h r).part = s.part := rfl
@[simp] theorem setHolder_retained (s : State) (h : HolderId) (r : HolderRec) :
    (s.setHolder h r).retained = s.retained := rfl
@[simp] theorem setHolder_staged (s : State) (h : HolderId) (r : HolderRec) :
    (s.setHolder h r).staged = s.staged := rfl
@[simp] theorem setHolder_startUp (s : State) (h : HolderId) (r : HolderRec) :
    (s.setHolder h r).startUp = s.startUp := rfl
@[simp] theorem setHolder_channels (s : State) (h : HolderId) (r : HolderRec) :
    (s.setHolder h r).channels = s.channels := rfl
@[simp] theorem setHolder_points (s : State) (h : HolderId) (r : HolderRec) :
    (s.setHolder h r).points = s.points := rfl
@[simp] theorem setHolder_returns (s : State) (h : HolderId) (r : HolderRec) :
    (s.setHolder h r).returns = s.returns := rfl
@[simp] theorem setHolder_holders (s : State) (h : HolderId) (r : HolderRec) :
    (s.setHolder h r).holders = s.holders.set h r := rfl
@[simp] theorem setHolder_controls (s : State) (h : HolderId) (r : HolderRec) :
    (s.setHolder h r).controls = s.controls := rfl
@[simp] theorem setHolder_valves (s : State) (h : HolderId) (r : HolderRec) :
    (s.setHolder h r).valves = s.valves := rfl
@[simp] theorem setHolder_plan (s : State) (h : HolderId) (r : HolderRec) : (s.setHolder h r).plan = s.plan := rfl
@[simp] theorem setHolder_meters (s : State) (h : HolderId) (r : HolderRec) :
    (s.setHolder h r).meters = s.meters := rfl
@[simp] theorem setHolder_check (s : State) (h : HolderId) (r : HolderRec) : (s.setHolder h r).check = s.check := rfl
@[simp] theorem setHolder_districts (s : State) (h : HolderId) (r : HolderRec) :
    (s.setHolder h r).districts = s.districts := rfl
@[simp] theorem setHolder_press (s : State) (h : HolderId) (r : HolderRec) : (s.setHolder h r).press = s.press := rfl
@[simp] theorem setHolder_booster (s : State) (h : HolderId) (r : HolderRec) :
    (s.setHolder h r).booster = s.booster := rfl
@[simp] theorem setHolder_stations (s : State) (h : HolderId) (r : HolderRec) :
    (s.setHolder h r).stations = s.stations := rfl
@[simp] theorem setHolder_line (s : State) (h : HolderId) (r : HolderRec) : (s.setHolder h r).line = s.line := rfl
@[simp] theorem setHolder_alarms (s : State) (h : HolderId) (r : HolderRec) :
    (s.setHolder h r).alarms = s.alarms := rfl
@[simp] theorem setHolder_link (s : State) (h : HolderId) (r : HolderRec) : (s.setHolder h r).link = s.link := rfl
@[simp] theorem setHolder_pending (s : State) (h : HolderId) (r : HolderRec) :
    (s.setHolder h r).pending = s.pending := rfl
@[simp] theorem setHolder_tables (s : State) (h : HolderId) (r : HolderRec) :
    (s.setHolder h r).tables = s.tables := rfl
@[simp] theorem setHolder_account (s : State) (h : HolderId) (r : HolderRec) :
    (s.setHolder h r).account = s.account := rfl
@[simp] theorem setHolder_clock (s : State) (h : HolderId) (r : HolderRec) : (s.setHolder h r).clock = s.clock := rfl

/-! ### setControl -/

@[simp] theorem setControl_supply (s : State) (h : HolderId) (r : HolderControl) :
    (s.setControl h r).supply = s.supply := rfl
@[simp] theorem setControl_part (s : State) (h : HolderId) (r : HolderControl) :
    (s.setControl h r).part = s.part := rfl
@[simp] theorem setControl_retained (s : State) (h : HolderId) (r : HolderControl) :
    (s.setControl h r).retained = s.retained := rfl
@[simp] theorem setControl_staged (s : State) (h : HolderId) (r : HolderControl) :
    (s.setControl h r).staged = s.staged := rfl
@[simp] theorem setControl_startUp (s : State) (h : HolderId) (r : HolderControl) :
    (s.setControl h r).startUp = s.startUp := rfl
@[simp] theorem setControl_channels (s : State) (h : HolderId) (r : HolderControl) :
    (s.setControl h r).channels = s.channels := rfl
@[simp] theorem setControl_points (s : State) (h : HolderId) (r : HolderControl) :
    (s.setControl h r).points = s.points := rfl
@[simp] theorem setControl_returns (s : State) (h : HolderId) (r : HolderControl) :
    (s.setControl h r).returns = s.returns := rfl
@[simp] theorem setControl_holders (s : State) (h : HolderId) (r : HolderControl) :
    (s.setControl h r).holders = s.holders := rfl
@[simp] theorem setControl_controls (s : State) (h : HolderId) (r : HolderControl) :
    (s.setControl h r).controls = s.controls.set h r := rfl
@[simp] theorem setControl_valves (s : State) (h : HolderId) (r : HolderControl) :
    (s.setControl h r).valves = s.valves := rfl
@[simp] theorem setControl_plan (s : State) (h : HolderId) (r : HolderControl) :
    (s.setControl h r).plan = s.plan := rfl
@[simp] theorem setControl_meters (s : State) (h : HolderId) (r : HolderControl) :
    (s.setControl h r).meters = s.meters := rfl
@[simp] theorem setControl_check (s : State) (h : HolderId) (r : HolderControl) :
    (s.setControl h r).check = s.check := rfl
@[simp] theorem setControl_districts (s : State) (h : HolderId) (r : HolderControl) :
    (s.setControl h r).districts = s.districts := rfl
@[simp] theorem setControl_press (s : State) (h : HolderId) (r : HolderControl) :
    (s.setControl h r).press = s.press := rfl
@[simp] theorem setControl_booster (s : State) (h : HolderId) (r : HolderControl) :
    (s.setControl h r).booster = s.booster := rfl
@[simp] theorem setControl_stations (s : State) (h : HolderId) (r : HolderControl) :
    (s.setControl h r).stations = s.stations := rfl
@[simp] theorem setControl_line (s : State) (h : HolderId) (r : HolderControl) :
    (s.setControl h r).line = s.line := rfl
@[simp] theorem setControl_alarms (s : State) (h : HolderId) (r : HolderControl) :
    (s.setControl h r).alarms = s.alarms := rfl
@[simp] theorem setControl_link (s : State) (h : HolderId) (r : HolderControl) :
    (s.setControl h r).link = s.link := rfl
@[simp] theorem setControl_pending (s : State) (h : HolderId) (r : HolderControl) :
    (s.setControl h r).pending = s.pending := rfl
@[simp] theorem setControl_tables (s : State) (h : HolderId) (r : HolderControl) :
    (s.setControl h r).tables = s.tables := rfl
@[simp] theorem setControl_account (s : State) (h : HolderId) (r : HolderControl) :
    (s.setControl h r).account = s.account := rfl
@[simp] theorem setControl_clock (s : State) (h : HolderId) (r : HolderControl) :
    (s.setControl h r).clock = s.clock := rfl

/-! ### setValve -/

@[simp] theorem setValve_supply (s : State) (v : ValveId) (r : Valve) : (s.setValve v r).supply = s.supply := rfl
@[simp] theorem setValve_part (s : State) (v : ValveId) (r : Valve) : (s.setValve v r).part = s.part := rfl
@[simp] theorem setValve_retained (s : State) (v : ValveId) (r : Valve) :
    (s.setValve v r).retained = s.retained := rfl
@[simp] theorem setValve_staged (s : State) (v : ValveId) (r : Valve) : (s.setValve v r).staged = s.staged := rfl
@[simp] theorem setValve_startUp (s : State) (v : ValveId) (r : Valve) : (s.setValve v r).startUp = s.startUp := rfl
@[simp] theorem setValve_channels (s : State) (v : ValveId) (r : Valve) :
    (s.setValve v r).channels = s.channels := rfl
@[simp] theorem setValve_points (s : State) (v : ValveId) (r : Valve) : (s.setValve v r).points = s.points := rfl
@[simp] theorem setValve_returns (s : State) (v : ValveId) (r : Valve) : (s.setValve v r).returns = s.returns := rfl
@[simp] theorem setValve_holders (s : State) (v : ValveId) (r : Valve) : (s.setValve v r).holders = s.holders := rfl
@[simp] theorem setValve_controls (s : State) (v : ValveId) (r : Valve) :
    (s.setValve v r).controls = s.controls := rfl
@[simp] theorem setValve_valves (s : State) (v : ValveId) (r : Valve) :
    (s.setValve v r).valves = s.valves.set v r := rfl
@[simp] theorem setValve_plan (s : State) (v : ValveId) (r : Valve) : (s.setValve v r).plan = s.plan := rfl
@[simp] theorem setValve_meters (s : State) (v : ValveId) (r : Valve) : (s.setValve v r).meters = s.meters := rfl
@[simp] theorem setValve_check (s : State) (v : ValveId) (r : Valve) : (s.setValve v r).check = s.check := rfl
@[simp] theorem setValve_districts (s : State) (v : ValveId) (r : Valve) :
    (s.setValve v r).districts = s.districts := rfl
@[simp] theorem setValve_press (s : State) (v : ValveId) (r : Valve) : (s.setValve v r).press = s.press := rfl
@[simp] theorem setValve_booster (s : State) (v : ValveId) (r : Valve) : (s.setValve v r).booster = s.booster := rfl
@[simp] theorem setValve_stations (s : State) (v : ValveId) (r : Valve) :
    (s.setValve v r).stations = s.stations := rfl
@[simp] theorem setValve_line (s : State) (v : ValveId) (r : Valve) : (s.setValve v r).line = s.line := rfl
@[simp] theorem setValve_alarms (s : State) (v : ValveId) (r : Valve) : (s.setValve v r).alarms = s.alarms := rfl
@[simp] theorem setValve_link (s : State) (v : ValveId) (r : Valve) : (s.setValve v r).link = s.link := rfl
@[simp] theorem setValve_pending (s : State) (v : ValveId) (r : Valve) : (s.setValve v r).pending = s.pending := rfl
@[simp] theorem setValve_tables (s : State) (v : ValveId) (r : Valve) : (s.setValve v r).tables = s.tables := rfl
@[simp] theorem setValve_account (s : State) (v : ValveId) (r : Valve) : (s.setValve v r).account = s.account := rfl
@[simp] theorem setValve_clock (s : State) (v : ValveId) (r : Valve) : (s.setValve v r).clock = s.clock := rfl

/-! ### setMeter -/

@[simp] theorem setMeter_supply (s : State) (p : PulseId) (r : Meter) : (s.setMeter p r).supply = s.supply := rfl
@[simp] theorem setMeter_part (s : State) (p : PulseId) (r : Meter) : (s.setMeter p r).part = s.part := rfl
@[simp] theorem setMeter_retained (s : State) (p : PulseId) (r : Meter) :
    (s.setMeter p r).retained = s.retained := rfl
@[simp] theorem setMeter_staged (s : State) (p : PulseId) (r : Meter) : (s.setMeter p r).staged = s.staged := rfl
@[simp] theorem setMeter_startUp (s : State) (p : PulseId) (r : Meter) : (s.setMeter p r).startUp = s.startUp := rfl
@[simp] theorem setMeter_channels (s : State) (p : PulseId) (r : Meter) :
    (s.setMeter p r).channels = s.channels := rfl
@[simp] theorem setMeter_points (s : State) (p : PulseId) (r : Meter) : (s.setMeter p r).points = s.points := rfl
@[simp] theorem setMeter_returns (s : State) (p : PulseId) (r : Meter) : (s.setMeter p r).returns = s.returns := rfl
@[simp] theorem setMeter_holders (s : State) (p : PulseId) (r : Meter) : (s.setMeter p r).holders = s.holders := rfl
@[simp] theorem setMeter_controls (s : State) (p : PulseId) (r : Meter) :
    (s.setMeter p r).controls = s.controls := rfl
@[simp] theorem setMeter_valves (s : State) (p : PulseId) (r : Meter) : (s.setMeter p r).valves = s.valves := rfl
@[simp] theorem setMeter_plan (s : State) (p : PulseId) (r : Meter) : (s.setMeter p r).plan = s.plan := rfl
@[simp] theorem setMeter_meters (s : State) (p : PulseId) (r : Meter) :
    (s.setMeter p r).meters = s.meters.set p r := rfl
@[simp] theorem setMeter_check (s : State) (p : PulseId) (r : Meter) : (s.setMeter p r).check = s.check := rfl
@[simp] theorem setMeter_districts (s : State) (p : PulseId) (r : Meter) :
    (s.setMeter p r).districts = s.districts := rfl
@[simp] theorem setMeter_press (s : State) (p : PulseId) (r : Meter) : (s.setMeter p r).press = s.press := rfl
@[simp] theorem setMeter_booster (s : State) (p : PulseId) (r : Meter) : (s.setMeter p r).booster = s.booster := rfl
@[simp] theorem setMeter_stations (s : State) (p : PulseId) (r : Meter) :
    (s.setMeter p r).stations = s.stations := rfl
@[simp] theorem setMeter_line (s : State) (p : PulseId) (r : Meter) : (s.setMeter p r).line = s.line := rfl
@[simp] theorem setMeter_alarms (s : State) (p : PulseId) (r : Meter) : (s.setMeter p r).alarms = s.alarms := rfl
@[simp] theorem setMeter_link (s : State) (p : PulseId) (r : Meter) : (s.setMeter p r).link = s.link := rfl
@[simp] theorem setMeter_pending (s : State) (p : PulseId) (r : Meter) : (s.setMeter p r).pending = s.pending := rfl
@[simp] theorem setMeter_tables (s : State) (p : PulseId) (r : Meter) : (s.setMeter p r).tables = s.tables := rfl
@[simp] theorem setMeter_account (s : State) (p : PulseId) (r : Meter) : (s.setMeter p r).account = s.account := rfl
@[simp] theorem setMeter_clock (s : State) (p : PulseId) (r : Meter) : (s.setMeter p r).clock = s.clock := rfl

/-! ### setDistrict -/

@[simp] theorem setDistrict_supply (s : State) (d : DistrictId) (r : District) :
    (s.setDistrict d r).supply = s.supply := rfl
@[simp] theorem setDistrict_part (s : State) (d : DistrictId) (r : District) :
    (s.setDistrict d r).part = s.part := rfl
@[simp] theorem setDistrict_retained (s : State) (d : DistrictId) (r : District) :
    (s.setDistrict d r).retained = s.retained := rfl
@[simp] theorem setDistrict_staged (s : State) (d : DistrictId) (r : District) :
    (s.setDistrict d r).staged = s.staged := rfl
@[simp] theorem setDistrict_startUp (s : State) (d : DistrictId) (r : District) :
    (s.setDistrict d r).startUp = s.startUp := rfl
@[simp] theorem setDistrict_channels (s : State) (d : DistrictId) (r : District) :
    (s.setDistrict d r).channels = s.channels := rfl
@[simp] theorem setDistrict_points (s : State) (d : DistrictId) (r : District) :
    (s.setDistrict d r).points = s.points := rfl
@[simp] theorem setDistrict_returns (s : State) (d : DistrictId) (r : District) :
    (s.setDistrict d r).returns = s.returns := rfl
@[simp] theorem setDistrict_holders (s : State) (d : DistrictId) (r : District) :
    (s.setDistrict d r).holders = s.holders := rfl
@[simp] theorem setDistrict_controls (s : State) (d : DistrictId) (r : District) :
    (s.setDistrict d r).controls = s.controls := rfl
@[simp] theorem setDistrict_valves (s : State) (d : DistrictId) (r : District) :
    (s.setDistrict d r).valves = s.valves := rfl
@[simp] theorem setDistrict_plan (s : State) (d : DistrictId) (r : District) :
    (s.setDistrict d r).plan = s.plan := rfl
@[simp] theorem setDistrict_meters (s : State) (d : DistrictId) (r : District) :
    (s.setDistrict d r).meters = s.meters := rfl
@[simp] theorem setDistrict_check (s : State) (d : DistrictId) (r : District) :
    (s.setDistrict d r).check = s.check := rfl
@[simp] theorem setDistrict_districts (s : State) (d : DistrictId) (r : District) :
    (s.setDistrict d r).districts = s.districts.set d r := rfl
@[simp] theorem setDistrict_press (s : State) (d : DistrictId) (r : District) :
    (s.setDistrict d r).press = s.press := rfl
@[simp] theorem setDistrict_booster (s : State) (d : DistrictId) (r : District) :
    (s.setDistrict d r).booster = s.booster := rfl
@[simp] theorem setDistrict_stations (s : State) (d : DistrictId) (r : District) :
    (s.setDistrict d r).stations = s.stations := rfl
@[simp] theorem setDistrict_line (s : State) (d : DistrictId) (r : District) :
    (s.setDistrict d r).line = s.line := rfl
@[simp] theorem setDistrict_alarms (s : State) (d : DistrictId) (r : District) :
    (s.setDistrict d r).alarms = s.alarms := rfl
@[simp] theorem setDistrict_link (s : State) (d : DistrictId) (r : District) :
    (s.setDistrict d r).link = s.link := rfl
@[simp] theorem setDistrict_pending (s : State) (d : DistrictId) (r : District) :
    (s.setDistrict d r).pending = s.pending := rfl
@[simp] theorem setDistrict_tables (s : State) (d : DistrictId) (r : District) :
    (s.setDistrict d r).tables = s.tables := rfl
@[simp] theorem setDistrict_account (s : State) (d : DistrictId) (r : District) :
    (s.setDistrict d r).account = s.account := rfl
@[simp] theorem setDistrict_clock (s : State) (d : DistrictId) (r : District) :
    (s.setDistrict d r).clock = s.clock := rfl

/-! ### setStation -/

@[simp] theorem setStation_supply (s : State) (n : StationId) (r : Station) :
    (s.setStation n r).supply = s.supply := rfl
@[simp] theorem setStation_part (s : State) (n : StationId) (r : Station) : (s.setStation n r).part = s.part := rfl
@[simp] theorem setStation_retained (s : State) (n : StationId) (r : Station) :
    (s.setStation n r).retained = s.retained := rfl
@[simp] theorem setStation_staged (s : State) (n : StationId) (r : Station) :
    (s.setStation n r).staged = s.staged := rfl
@[simp] theorem setStation_startUp (s : State) (n : StationId) (r : Station) :
    (s.setStation n r).startUp = s.startUp := rfl
@[simp] theorem setStation_channels (s : State) (n : StationId) (r : Station) :
    (s.setStation n r).channels = s.channels := rfl
@[simp] theorem setStation_points (s : State) (n : StationId) (r : Station) :
    (s.setStation n r).points = s.points := rfl
@[simp] theorem setStation_returns (s : State) (n : StationId) (r : Station) :
    (s.setStation n r).returns = s.returns := rfl
@[simp] theorem setStation_holders (s : State) (n : StationId) (r : Station) :
    (s.setStation n r).holders = s.holders := rfl
@[simp] theorem setStation_controls (s : State) (n : StationId) (r : Station) :
    (s.setStation n r).controls = s.controls := rfl
@[simp] theorem setStation_valves (s : State) (n : StationId) (r : Station) :
    (s.setStation n r).valves = s.valves := rfl
@[simp] theorem setStation_plan (s : State) (n : StationId) (r : Station) : (s.setStation n r).plan = s.plan := rfl
@[simp] theorem setStation_meters (s : State) (n : StationId) (r : Station) :
    (s.setStation n r).meters = s.meters := rfl
@[simp] theorem setStation_check (s : State) (n : StationId) (r : Station) : (s.setStation n r).check = s.check := rfl
@[simp] theorem setStation_districts (s : State) (n : StationId) (r : Station) :
    (s.setStation n r).districts = s.districts := rfl
@[simp] theorem setStation_press (s : State) (n : StationId) (r : Station) : (s.setStation n r).press = s.press := rfl
@[simp] theorem setStation_booster (s : State) (n : StationId) (r : Station) :
    (s.setStation n r).booster = s.booster := rfl
@[simp] theorem setStation_stations (s : State) (n : StationId) (r : Station) :
    (s.setStation n r).stations = s.stations.set n r := rfl
@[simp] theorem setStation_line (s : State) (n : StationId) (r : Station) : (s.setStation n r).line = s.line := rfl
@[simp] theorem setStation_alarms (s : State) (n : StationId) (r : Station) :
    (s.setStation n r).alarms = s.alarms := rfl
@[simp] theorem setStation_link (s : State) (n : StationId) (r : Station) : (s.setStation n r).link = s.link := rfl
@[simp] theorem setStation_pending (s : State) (n : StationId) (r : Station) :
    (s.setStation n r).pending = s.pending := rfl
@[simp] theorem setStation_tables (s : State) (n : StationId) (r : Station) :
    (s.setStation n r).tables = s.tables := rfl
@[simp] theorem setStation_account (s : State) (n : StationId) (r : Station) :
    (s.setStation n r).account = s.account := rfl
@[simp] theorem setStation_clock (s : State) (n : StationId) (r : Station) : (s.setStation n r).clock = s.clock := rfl

/-! ### setPlan -/

@[simp] theorem setPlan_supply (s : State) (p : Plan) : (s.setPlan p).supply = s.supply := rfl
@[simp] theorem setPlan_part (s : State) (p : Plan) : (s.setPlan p).part = s.part := rfl
@[simp] theorem setPlan_retained (s : State) (p : Plan) : (s.setPlan p).retained = s.retained := rfl
@[simp] theorem setPlan_staged (s : State) (p : Plan) : (s.setPlan p).staged = s.staged := rfl
@[simp] theorem setPlan_startUp (s : State) (p : Plan) : (s.setPlan p).startUp = s.startUp := rfl
@[simp] theorem setPlan_channels (s : State) (p : Plan) : (s.setPlan p).channels = s.channels := rfl
@[simp] theorem setPlan_points (s : State) (p : Plan) : (s.setPlan p).points = s.points := rfl
@[simp] theorem setPlan_returns (s : State) (p : Plan) : (s.setPlan p).returns = s.returns := rfl
@[simp] theorem setPlan_holders (s : State) (p : Plan) : (s.setPlan p).holders = s.holders := rfl
@[simp] theorem setPlan_controls (s : State) (p : Plan) : (s.setPlan p).controls = s.controls := rfl
@[simp] theorem setPlan_valves (s : State) (p : Plan) : (s.setPlan p).valves = s.valves := rfl
@[simp] theorem setPlan_plan (s : State) (p : Plan) : (s.setPlan p).plan = p := rfl
@[simp] theorem setPlan_meters (s : State) (p : Plan) : (s.setPlan p).meters = s.meters := rfl
@[simp] theorem setPlan_check (s : State) (p : Plan) : (s.setPlan p).check = s.check := rfl
@[simp] theorem setPlan_districts (s : State) (p : Plan) : (s.setPlan p).districts = s.districts := rfl
@[simp] theorem setPlan_press (s : State) (p : Plan) : (s.setPlan p).press = s.press := rfl
@[simp] theorem setPlan_booster (s : State) (p : Plan) : (s.setPlan p).booster = s.booster := rfl
@[simp] theorem setPlan_stations (s : State) (p : Plan) : (s.setPlan p).stations = s.stations := rfl
@[simp] theorem setPlan_line (s : State) (p : Plan) : (s.setPlan p).line = s.line := rfl
@[simp] theorem setPlan_alarms (s : State) (p : Plan) : (s.setPlan p).alarms = s.alarms := rfl
@[simp] theorem setPlan_link (s : State) (p : Plan) : (s.setPlan p).link = s.link := rfl
@[simp] theorem setPlan_pending (s : State) (p : Plan) : (s.setPlan p).pending = s.pending := rfl
@[simp] theorem setPlan_tables (s : State) (p : Plan) : (s.setPlan p).tables = s.tables := rfl
@[simp] theorem setPlan_account (s : State) (p : Plan) : (s.setPlan p).account = s.account := rfl
@[simp] theorem setPlan_clock (s : State) (p : Plan) : (s.setPlan p).clock = s.clock := rfl

/-! ### setCheck -/

@[simp] theorem setCheck_supply (s : State) (c : Check) : (s.setCheck c).supply = s.supply := rfl
@[simp] theorem setCheck_part (s : State) (c : Check) : (s.setCheck c).part = s.part := rfl
@[simp] theorem setCheck_retained (s : State) (c : Check) : (s.setCheck c).retained = s.retained := rfl
@[simp] theorem setCheck_staged (s : State) (c : Check) : (s.setCheck c).staged = s.staged := rfl
@[simp] theorem setCheck_startUp (s : State) (c : Check) : (s.setCheck c).startUp = s.startUp := rfl
@[simp] theorem setCheck_channels (s : State) (c : Check) : (s.setCheck c).channels = s.channels := rfl
@[simp] theorem setCheck_points (s : State) (c : Check) : (s.setCheck c).points = s.points := rfl
@[simp] theorem setCheck_returns (s : State) (c : Check) : (s.setCheck c).returns = s.returns := rfl
@[simp] theorem setCheck_holders (s : State) (c : Check) : (s.setCheck c).holders = s.holders := rfl
@[simp] theorem setCheck_controls (s : State) (c : Check) : (s.setCheck c).controls = s.controls := rfl
@[simp] theorem setCheck_valves (s : State) (c : Check) : (s.setCheck c).valves = s.valves := rfl
@[simp] theorem setCheck_plan (s : State) (c : Check) : (s.setCheck c).plan = s.plan := rfl
@[simp] theorem setCheck_meters (s : State) (c : Check) : (s.setCheck c).meters = s.meters := rfl
@[simp] theorem setCheck_check (s : State) (c : Check) : (s.setCheck c).check = c := rfl
@[simp] theorem setCheck_districts (s : State) (c : Check) : (s.setCheck c).districts = s.districts := rfl
@[simp] theorem setCheck_press (s : State) (c : Check) : (s.setCheck c).press = s.press := rfl
@[simp] theorem setCheck_booster (s : State) (c : Check) : (s.setCheck c).booster = s.booster := rfl
@[simp] theorem setCheck_stations (s : State) (c : Check) : (s.setCheck c).stations = s.stations := rfl
@[simp] theorem setCheck_line (s : State) (c : Check) : (s.setCheck c).line = s.line := rfl
@[simp] theorem setCheck_alarms (s : State) (c : Check) : (s.setCheck c).alarms = s.alarms := rfl
@[simp] theorem setCheck_link (s : State) (c : Check) : (s.setCheck c).link = s.link := rfl
@[simp] theorem setCheck_pending (s : State) (c : Check) : (s.setCheck c).pending = s.pending := rfl
@[simp] theorem setCheck_tables (s : State) (c : Check) : (s.setCheck c).tables = s.tables := rfl
@[simp] theorem setCheck_account (s : State) (c : Check) : (s.setCheck c).account = s.account := rfl
@[simp] theorem setCheck_clock (s : State) (c : Check) : (s.setCheck c).clock = s.clock := rfl

/-! ### setBooster -/

@[simp] theorem setBooster_supply (s : State) (b : Booster) : (s.setBooster b).supply = s.supply := rfl
@[simp] theorem setBooster_part (s : State) (b : Booster) : (s.setBooster b).part = s.part := rfl
@[simp] theorem setBooster_retained (s : State) (b : Booster) : (s.setBooster b).retained = s.retained := rfl
@[simp] theorem setBooster_staged (s : State) (b : Booster) : (s.setBooster b).staged = s.staged := rfl
@[simp] theorem setBooster_startUp (s : State) (b : Booster) : (s.setBooster b).startUp = s.startUp := rfl
@[simp] theorem setBooster_channels (s : State) (b : Booster) : (s.setBooster b).channels = s.channels := rfl
@[simp] theorem setBooster_points (s : State) (b : Booster) : (s.setBooster b).points = s.points := rfl
@[simp] theorem setBooster_returns (s : State) (b : Booster) : (s.setBooster b).returns = s.returns := rfl
@[simp] theorem setBooster_holders (s : State) (b : Booster) : (s.setBooster b).holders = s.holders := rfl
@[simp] theorem setBooster_controls (s : State) (b : Booster) : (s.setBooster b).controls = s.controls := rfl
@[simp] theorem setBooster_valves (s : State) (b : Booster) : (s.setBooster b).valves = s.valves := rfl
@[simp] theorem setBooster_plan (s : State) (b : Booster) : (s.setBooster b).plan = s.plan := rfl
@[simp] theorem setBooster_meters (s : State) (b : Booster) : (s.setBooster b).meters = s.meters := rfl
@[simp] theorem setBooster_check (s : State) (b : Booster) : (s.setBooster b).check = s.check := rfl
@[simp] theorem setBooster_districts (s : State) (b : Booster) : (s.setBooster b).districts = s.districts := rfl
@[simp] theorem setBooster_press (s : State) (b : Booster) : (s.setBooster b).press = s.press := rfl
@[simp] theorem setBooster_booster (s : State) (b : Booster) : (s.setBooster b).booster = b := rfl
@[simp] theorem setBooster_stations (s : State) (b : Booster) : (s.setBooster b).stations = s.stations := rfl
@[simp] theorem setBooster_line (s : State) (b : Booster) : (s.setBooster b).line = s.line := rfl
@[simp] theorem setBooster_alarms (s : State) (b : Booster) : (s.setBooster b).alarms = s.alarms := rfl
@[simp] theorem setBooster_link (s : State) (b : Booster) : (s.setBooster b).link = s.link := rfl
@[simp] theorem setBooster_pending (s : State) (b : Booster) : (s.setBooster b).pending = s.pending := rfl
@[simp] theorem setBooster_tables (s : State) (b : Booster) : (s.setBooster b).tables = s.tables := rfl
@[simp] theorem setBooster_account (s : State) (b : Booster) : (s.setBooster b).account = s.account := rfl
@[simp] theorem setBooster_clock (s : State) (b : Booster) : (s.setBooster b).clock = s.clock := rfl

/-! ### setPress -/

@[simp] theorem setPress_supply (s : State) (p : Pressure) : (s.setPress p).supply = s.supply := rfl
@[simp] theorem setPress_part (s : State) (p : Pressure) : (s.setPress p).part = s.part := rfl
@[simp] theorem setPress_retained (s : State) (p : Pressure) : (s.setPress p).retained = s.retained := rfl
@[simp] theorem setPress_staged (s : State) (p : Pressure) : (s.setPress p).staged = s.staged := rfl
@[simp] theorem setPress_startUp (s : State) (p : Pressure) : (s.setPress p).startUp = s.startUp := rfl
@[simp] theorem setPress_channels (s : State) (p : Pressure) : (s.setPress p).channels = s.channels := rfl
@[simp] theorem setPress_points (s : State) (p : Pressure) : (s.setPress p).points = s.points := rfl
@[simp] theorem setPress_returns (s : State) (p : Pressure) : (s.setPress p).returns = s.returns := rfl
@[simp] theorem setPress_holders (s : State) (p : Pressure) : (s.setPress p).holders = s.holders := rfl
@[simp] theorem setPress_controls (s : State) (p : Pressure) : (s.setPress p).controls = s.controls := rfl
@[simp] theorem setPress_valves (s : State) (p : Pressure) : (s.setPress p).valves = s.valves := rfl
@[simp] theorem setPress_plan (s : State) (p : Pressure) : (s.setPress p).plan = s.plan := rfl
@[simp] theorem setPress_meters (s : State) (p : Pressure) : (s.setPress p).meters = s.meters := rfl
@[simp] theorem setPress_check (s : State) (p : Pressure) : (s.setPress p).check = s.check := rfl
@[simp] theorem setPress_districts (s : State) (p : Pressure) : (s.setPress p).districts = s.districts := rfl
@[simp] theorem setPress_press (s : State) (p : Pressure) : (s.setPress p).press = p := rfl
@[simp] theorem setPress_booster (s : State) (p : Pressure) : (s.setPress p).booster = s.booster := rfl
@[simp] theorem setPress_stations (s : State) (p : Pressure) : (s.setPress p).stations = s.stations := rfl
@[simp] theorem setPress_line (s : State) (p : Pressure) : (s.setPress p).line = s.line := rfl
@[simp] theorem setPress_alarms (s : State) (p : Pressure) : (s.setPress p).alarms = s.alarms := rfl
@[simp] theorem setPress_link (s : State) (p : Pressure) : (s.setPress p).link = s.link := rfl
@[simp] theorem setPress_pending (s : State) (p : Pressure) : (s.setPress p).pending = s.pending := rfl
@[simp] theorem setPress_tables (s : State) (p : Pressure) : (s.setPress p).tables = s.tables := rfl
@[simp] theorem setPress_account (s : State) (p : Pressure) : (s.setPress p).account = s.account := rfl
@[simp] theorem setPress_clock (s : State) (p : Pressure) : (s.setPress p).clock = s.clock := rfl

/-! ### setLine -/

@[simp] theorem setLine_supply (s : State) (l : Line) : (s.setLine l).supply = s.supply := rfl
@[simp] theorem setLine_part (s : State) (l : Line) : (s.setLine l).part = s.part := rfl
@[simp] theorem setLine_retained (s : State) (l : Line) : (s.setLine l).retained = s.retained := rfl
@[simp] theorem setLine_staged (s : State) (l : Line) : (s.setLine l).staged = s.staged := rfl
@[simp] theorem setLine_startUp (s : State) (l : Line) : (s.setLine l).startUp = s.startUp := rfl
@[simp] theorem setLine_channels (s : State) (l : Line) : (s.setLine l).channels = s.channels := rfl
@[simp] theorem setLine_points (s : State) (l : Line) : (s.setLine l).points = s.points := rfl
@[simp] theorem setLine_returns (s : State) (l : Line) : (s.setLine l).returns = s.returns := rfl
@[simp] theorem setLine_holders (s : State) (l : Line) : (s.setLine l).holders = s.holders := rfl
@[simp] theorem setLine_controls (s : State) (l : Line) : (s.setLine l).controls = s.controls := rfl
@[simp] theorem setLine_valves (s : State) (l : Line) : (s.setLine l).valves = s.valves := rfl
@[simp] theorem setLine_plan (s : State) (l : Line) : (s.setLine l).plan = s.plan := rfl
@[simp] theorem setLine_meters (s : State) (l : Line) : (s.setLine l).meters = s.meters := rfl
@[simp] theorem setLine_check (s : State) (l : Line) : (s.setLine l).check = s.check := rfl
@[simp] theorem setLine_districts (s : State) (l : Line) : (s.setLine l).districts = s.districts := rfl
@[simp] theorem setLine_press (s : State) (l : Line) : (s.setLine l).press = s.press := rfl
@[simp] theorem setLine_booster (s : State) (l : Line) : (s.setLine l).booster = s.booster := rfl
@[simp] theorem setLine_stations (s : State) (l : Line) : (s.setLine l).stations = s.stations := rfl
@[simp] theorem setLine_line (s : State) (l : Line) : (s.setLine l).line = l := rfl
@[simp] theorem setLine_alarms (s : State) (l : Line) : (s.setLine l).alarms = s.alarms := rfl
@[simp] theorem setLine_link (s : State) (l : Line) : (s.setLine l).link = s.link := rfl
@[simp] theorem setLine_pending (s : State) (l : Line) : (s.setLine l).pending = s.pending := rfl
@[simp] theorem setLine_tables (s : State) (l : Line) : (s.setLine l).tables = s.tables := rfl
@[simp] theorem setLine_account (s : State) (l : Line) : (s.setLine l).account = s.account := rfl
@[simp] theorem setLine_clock (s : State) (l : Line) : (s.setLine l).clock = s.clock := rfl

/-! ### setLink -/

@[simp] theorem setLink_supply (s : State) (l : Link) : (s.setLink l).supply = s.supply := rfl
@[simp] theorem setLink_part (s : State) (l : Link) : (s.setLink l).part = s.part := rfl
@[simp] theorem setLink_retained (s : State) (l : Link) : (s.setLink l).retained = s.retained := rfl
@[simp] theorem setLink_staged (s : State) (l : Link) : (s.setLink l).staged = s.staged := rfl
@[simp] theorem setLink_startUp (s : State) (l : Link) : (s.setLink l).startUp = s.startUp := rfl
@[simp] theorem setLink_channels (s : State) (l : Link) : (s.setLink l).channels = s.channels := rfl
@[simp] theorem setLink_points (s : State) (l : Link) : (s.setLink l).points = s.points := rfl
@[simp] theorem setLink_returns (s : State) (l : Link) : (s.setLink l).returns = s.returns := rfl
@[simp] theorem setLink_holders (s : State) (l : Link) : (s.setLink l).holders = s.holders := rfl
@[simp] theorem setLink_controls (s : State) (l : Link) : (s.setLink l).controls = s.controls := rfl
@[simp] theorem setLink_valves (s : State) (l : Link) : (s.setLink l).valves = s.valves := rfl
@[simp] theorem setLink_plan (s : State) (l : Link) : (s.setLink l).plan = s.plan := rfl
@[simp] theorem setLink_meters (s : State) (l : Link) : (s.setLink l).meters = s.meters := rfl
@[simp] theorem setLink_check (s : State) (l : Link) : (s.setLink l).check = s.check := rfl
@[simp] theorem setLink_districts (s : State) (l : Link) : (s.setLink l).districts = s.districts := rfl
@[simp] theorem setLink_press (s : State) (l : Link) : (s.setLink l).press = s.press := rfl
@[simp] theorem setLink_booster (s : State) (l : Link) : (s.setLink l).booster = s.booster := rfl
@[simp] theorem setLink_stations (s : State) (l : Link) : (s.setLink l).stations = s.stations := rfl
@[simp] theorem setLink_line (s : State) (l : Link) : (s.setLink l).line = s.line := rfl
@[simp] theorem setLink_alarms (s : State) (l : Link) : (s.setLink l).alarms = s.alarms := rfl
@[simp] theorem setLink_link (s : State) (l : Link) : (s.setLink l).link = l := rfl
@[simp] theorem setLink_pending (s : State) (l : Link) : (s.setLink l).pending = s.pending := rfl
@[simp] theorem setLink_tables (s : State) (l : Link) : (s.setLink l).tables = s.tables := rfl
@[simp] theorem setLink_account (s : State) (l : Link) : (s.setLink l).account = s.account := rfl
@[simp] theorem setLink_clock (s : State) (l : Link) : (s.setLink l).clock = s.clock := rfl

/-! ### setAlarms -/

@[simp] theorem setAlarms_supply (s : State) (a : AlarmList) : (s.setAlarms a).supply = s.supply := rfl
@[simp] theorem setAlarms_part (s : State) (a : AlarmList) : (s.setAlarms a).part = s.part := rfl
@[simp] theorem setAlarms_retained (s : State) (a : AlarmList) : (s.setAlarms a).retained = s.retained := rfl
@[simp] theorem setAlarms_staged (s : State) (a : AlarmList) : (s.setAlarms a).staged = s.staged := rfl
@[simp] theorem setAlarms_startUp (s : State) (a : AlarmList) : (s.setAlarms a).startUp = s.startUp := rfl
@[simp] theorem setAlarms_channels (s : State) (a : AlarmList) : (s.setAlarms a).channels = s.channels := rfl
@[simp] theorem setAlarms_points (s : State) (a : AlarmList) : (s.setAlarms a).points = s.points := rfl
@[simp] theorem setAlarms_returns (s : State) (a : AlarmList) : (s.setAlarms a).returns = s.returns := rfl
@[simp] theorem setAlarms_holders (s : State) (a : AlarmList) : (s.setAlarms a).holders = s.holders := rfl
@[simp] theorem setAlarms_controls (s : State) (a : AlarmList) : (s.setAlarms a).controls = s.controls := rfl
@[simp] theorem setAlarms_valves (s : State) (a : AlarmList) : (s.setAlarms a).valves = s.valves := rfl
@[simp] theorem setAlarms_plan (s : State) (a : AlarmList) : (s.setAlarms a).plan = s.plan := rfl
@[simp] theorem setAlarms_meters (s : State) (a : AlarmList) : (s.setAlarms a).meters = s.meters := rfl
@[simp] theorem setAlarms_check (s : State) (a : AlarmList) : (s.setAlarms a).check = s.check := rfl
@[simp] theorem setAlarms_districts (s : State) (a : AlarmList) : (s.setAlarms a).districts = s.districts := rfl
@[simp] theorem setAlarms_press (s : State) (a : AlarmList) : (s.setAlarms a).press = s.press := rfl
@[simp] theorem setAlarms_booster (s : State) (a : AlarmList) : (s.setAlarms a).booster = s.booster := rfl
@[simp] theorem setAlarms_stations (s : State) (a : AlarmList) : (s.setAlarms a).stations = s.stations := rfl
@[simp] theorem setAlarms_line (s : State) (a : AlarmList) : (s.setAlarms a).line = s.line := rfl
@[simp] theorem setAlarms_alarms (s : State) (a : AlarmList) : (s.setAlarms a).alarms = a := rfl
@[simp] theorem setAlarms_link (s : State) (a : AlarmList) : (s.setAlarms a).link = s.link := rfl
@[simp] theorem setAlarms_pending (s : State) (a : AlarmList) : (s.setAlarms a).pending = s.pending := rfl
@[simp] theorem setAlarms_tables (s : State) (a : AlarmList) : (s.setAlarms a).tables = s.tables := rfl
@[simp] theorem setAlarms_account (s : State) (a : AlarmList) : (s.setAlarms a).account = s.account := rfl
@[simp] theorem setAlarms_clock (s : State) (a : AlarmList) : (s.setAlarms a).clock = s.clock := rfl

/-! ### setRetained -/

@[simp] theorem setRetained_supply (s : State) (r : Retained) : (s.setRetained r).supply = s.supply := rfl
@[simp] theorem setRetained_part (s : State) (r : Retained) : (s.setRetained r).part = s.part := rfl
@[simp] theorem setRetained_retained (s : State) (r : Retained) : (s.setRetained r).retained = r.written := rfl
@[simp] theorem setRetained_staged (s : State) (r : Retained) : (s.setRetained r).staged = s.staged := rfl
@[simp] theorem setRetained_startUp (s : State) (r : Retained) : (s.setRetained r).startUp = s.startUp := rfl
@[simp] theorem setRetained_channels (s : State) (r : Retained) : (s.setRetained r).channels = s.channels := rfl
@[simp] theorem setRetained_points (s : State) (r : Retained) : (s.setRetained r).points = s.points := rfl
@[simp] theorem setRetained_returns (s : State) (r : Retained) : (s.setRetained r).returns = s.returns := rfl
@[simp] theorem setRetained_holders (s : State) (r : Retained) : (s.setRetained r).holders = s.holders := rfl
@[simp] theorem setRetained_controls (s : State) (r : Retained) : (s.setRetained r).controls = s.controls := rfl
@[simp] theorem setRetained_valves (s : State) (r : Retained) : (s.setRetained r).valves = s.valves := rfl
@[simp] theorem setRetained_plan (s : State) (r : Retained) : (s.setRetained r).plan = s.plan := rfl
@[simp] theorem setRetained_meters (s : State) (r : Retained) : (s.setRetained r).meters = s.meters := rfl
@[simp] theorem setRetained_check (s : State) (r : Retained) : (s.setRetained r).check = s.check := rfl
@[simp] theorem setRetained_districts (s : State) (r : Retained) : (s.setRetained r).districts = s.districts := rfl
@[simp] theorem setRetained_press (s : State) (r : Retained) : (s.setRetained r).press = s.press := rfl
@[simp] theorem setRetained_booster (s : State) (r : Retained) : (s.setRetained r).booster = s.booster := rfl
@[simp] theorem setRetained_stations (s : State) (r : Retained) : (s.setRetained r).stations = s.stations := rfl
@[simp] theorem setRetained_line (s : State) (r : Retained) : (s.setRetained r).line = s.line := rfl
@[simp] theorem setRetained_alarms (s : State) (r : Retained) : (s.setRetained r).alarms = s.alarms := rfl
@[simp] theorem setRetained_link (s : State) (r : Retained) : (s.setRetained r).link = s.link := rfl
@[simp] theorem setRetained_pending (s : State) (r : Retained) : (s.setRetained r).pending = s.pending := rfl
@[simp] theorem setRetained_tables (s : State) (r : Retained) : (s.setRetained r).tables = r.tables := rfl
@[simp] theorem setRetained_account (s : State) (r : Retained) : (s.setRetained r).account = r.account := rfl
@[simp] theorem setRetained_clock (s : State) (r : Retained) : (s.setRetained r).clock = r.clock := rfl

/-! ### setAccount -/

@[simp] theorem setAccount_supply (s : State) (a : Account) : (s.setAccount a).supply = s.supply := rfl
@[simp] theorem setAccount_part (s : State) (a : Account) : (s.setAccount a).part = s.part := rfl
@[simp] theorem setAccount_retained (s : State) (a : Account) :
    (s.setAccount a).retained = Retained.written { s.retained with account := a } := rfl
@[simp] theorem setAccount_staged (s : State) (a : Account) : (s.setAccount a).staged = s.staged := rfl
@[simp] theorem setAccount_startUp (s : State) (a : Account) : (s.setAccount a).startUp = s.startUp := rfl
@[simp] theorem setAccount_channels (s : State) (a : Account) : (s.setAccount a).channels = s.channels := rfl
@[simp] theorem setAccount_points (s : State) (a : Account) : (s.setAccount a).points = s.points := rfl
@[simp] theorem setAccount_returns (s : State) (a : Account) : (s.setAccount a).returns = s.returns := rfl
@[simp] theorem setAccount_holders (s : State) (a : Account) : (s.setAccount a).holders = s.holders := rfl
@[simp] theorem setAccount_controls (s : State) (a : Account) : (s.setAccount a).controls = s.controls := rfl
@[simp] theorem setAccount_valves (s : State) (a : Account) : (s.setAccount a).valves = s.valves := rfl
@[simp] theorem setAccount_plan (s : State) (a : Account) : (s.setAccount a).plan = s.plan := rfl
@[simp] theorem setAccount_meters (s : State) (a : Account) : (s.setAccount a).meters = s.meters := rfl
@[simp] theorem setAccount_check (s : State) (a : Account) : (s.setAccount a).check = s.check := rfl
@[simp] theorem setAccount_districts (s : State) (a : Account) : (s.setAccount a).districts = s.districts := rfl
@[simp] theorem setAccount_press (s : State) (a : Account) : (s.setAccount a).press = s.press := rfl
@[simp] theorem setAccount_booster (s : State) (a : Account) : (s.setAccount a).booster = s.booster := rfl
@[simp] theorem setAccount_stations (s : State) (a : Account) : (s.setAccount a).stations = s.stations := rfl
@[simp] theorem setAccount_line (s : State) (a : Account) : (s.setAccount a).line = s.line := rfl
@[simp] theorem setAccount_alarms (s : State) (a : Account) : (s.setAccount a).alarms = s.alarms := rfl
@[simp] theorem setAccount_link (s : State) (a : Account) : (s.setAccount a).link = s.link := rfl
@[simp] theorem setAccount_pending (s : State) (a : Account) : (s.setAccount a).pending = s.pending := rfl
@[simp] theorem setAccount_tables (s : State) (a : Account) : (s.setAccount a).tables = s.tables := rfl
@[simp] theorem setAccount_account (s : State) (a : Account) : (s.setAccount a).account = a := rfl
@[simp] theorem setAccount_clock (s : State) (a : Account) : (s.setAccount a).clock = s.clock := rfl

/-! ### setTrim -/

@[simp] theorem setTrim_supply (s : State) (d : DistrictId) (x : Int) : (s.setTrim d x).supply = s.supply := rfl
@[simp] theorem setTrim_part (s : State) (d : DistrictId) (x : Int) : (s.setTrim d x).part = s.part := rfl
@[simp] theorem setTrim_retained (s : State) (d : DistrictId) (x : Int) :
    (s.setTrim d x).retained = Retained.written { s.retained with trims := s.retained.trims.set d x } := rfl
@[simp] theorem setTrim_staged (s : State) (d : DistrictId) (x : Int) : (s.setTrim d x).staged = s.staged := rfl
@[simp] theorem setTrim_startUp (s : State) (d : DistrictId) (x : Int) : (s.setTrim d x).startUp = s.startUp := rfl
@[simp] theorem setTrim_channels (s : State) (d : DistrictId) (x : Int) : (s.setTrim d x).channels = s.channels := rfl
@[simp] theorem setTrim_points (s : State) (d : DistrictId) (x : Int) : (s.setTrim d x).points = s.points := rfl
@[simp] theorem setTrim_returns (s : State) (d : DistrictId) (x : Int) : (s.setTrim d x).returns = s.returns := rfl
@[simp] theorem setTrim_holders (s : State) (d : DistrictId) (x : Int) : (s.setTrim d x).holders = s.holders := rfl
@[simp] theorem setTrim_controls (s : State) (d : DistrictId) (x : Int) : (s.setTrim d x).controls = s.controls := rfl
@[simp] theorem setTrim_valves (s : State) (d : DistrictId) (x : Int) : (s.setTrim d x).valves = s.valves := rfl
@[simp] theorem setTrim_plan (s : State) (d : DistrictId) (x : Int) : (s.setTrim d x).plan = s.plan := rfl
@[simp] theorem setTrim_meters (s : State) (d : DistrictId) (x : Int) : (s.setTrim d x).meters = s.meters := rfl
@[simp] theorem setTrim_check (s : State) (d : DistrictId) (x : Int) : (s.setTrim d x).check = s.check := rfl
@[simp] theorem setTrim_districts (s : State) (d : DistrictId) (x : Int) :
    (s.setTrim d x).districts = s.districts := rfl
@[simp] theorem setTrim_press (s : State) (d : DistrictId) (x : Int) : (s.setTrim d x).press = s.press := rfl
@[simp] theorem setTrim_booster (s : State) (d : DistrictId) (x : Int) : (s.setTrim d x).booster = s.booster := rfl
@[simp] theorem setTrim_stations (s : State) (d : DistrictId) (x : Int) : (s.setTrim d x).stations = s.stations := rfl
@[simp] theorem setTrim_line (s : State) (d : DistrictId) (x : Int) : (s.setTrim d x).line = s.line := rfl
@[simp] theorem setTrim_alarms (s : State) (d : DistrictId) (x : Int) : (s.setTrim d x).alarms = s.alarms := rfl
@[simp] theorem setTrim_link (s : State) (d : DistrictId) (x : Int) : (s.setTrim d x).link = s.link := rfl
@[simp] theorem setTrim_pending (s : State) (d : DistrictId) (x : Int) : (s.setTrim d x).pending = s.pending := rfl
@[simp] theorem setTrim_tables (s : State) (d : DistrictId) (x : Int) : (s.setTrim d x).tables = s.tables := rfl
@[simp] theorem setTrim_account (s : State) (d : DistrictId) (x : Int) : (s.setTrim d x).account = s.account := rfl
@[simp] theorem setTrim_clock (s : State) (d : DistrictId) (x : Int) : (s.setTrim d x).clock = s.clock := rfl

end State

end Sys2Proof.Machine
end

