-- ==== Sys2Proof/Laws/Alarms.lean ====
section
/-! SUPPORT. Laws/Alarms.lean: what the operations of the alarm list do, and that each keeps the list sound. -/

namespace Sys2Proof.Machine

namespace AlarmList

/-- The part of soundness that the entries alone decide. -/
def Fits (l : AlarmList) : Prop :=
  l.entries.length ≤ Config.alarmCapacity ∧
  l.entries.Pairwise (fun a b => ¬(a.kind = b.kind ∧ a.index = b.index)) ∧
  (l.listFull = true → l.entries.length = Config.alarmCapacity)

theorem Sound.fits {l : AlarmList} (h : l.Sound) : l.Fits := ⟨h.1, h.2.1, h.2.2.2⟩

/-- A list that fits is sound once ATTENTION is judged. -/
theorem Fits.judged {l : AlarmList} (h : l.Fits) : l.judged.Sound := ⟨h.1, h.2.1, rfl, h.2.2⟩

theorem lookup_some {l : AlarmList} {k : AlarmKind} {i : Nat} {e : AlarmEntry} (h : l.lookup k i = some e) :
    e ∈ l.entries ∧ e.kind = k ∧ e.index = i := by
  refine ⟨List.mem_of_find?_eq_some h, ?_⟩
  simpa [AlarmEntry.names] using List.find?_some h

theorem lookup_none {l : AlarmList} {k : AlarmKind} {i : Nat} (h : l.lookup k i = none) :
    ∀ e ∈ l.entries, ¬(e.kind = k ∧ e.index = i) := by
  simpa [lookup, AlarmEntry.names] using h

/-- A change that keeps every kind and index keeps a fitting list fitting. -/
theorem Fits.change {l : AlarmList} (h : l.Fits) (k : AlarmKind) (i : Nat) (f : AlarmEntry → AlarmEntry)
    (hf : ∀ e, (f e).kind = e.kind ∧ (f e).index = e.index) : (l.change k i f).Fits := by
  refine ⟨by simpa [AlarmList.change] using h.1, ?_, by simpa [AlarmList.change] using h.2.2⟩
  refine List.pairwise_map.mpr (h.2.1.imp ?_)
  intro a b hab
  have key (e : AlarmEntry) : (if e.names k i then f e else e).kind = e.kind ∧
      (if e.names k i then f e else e).index = e.index := by
    split <;> simp [hf]
  simpa [key] using hab

theorem Fits.remove {l : AlarmList} (h : l.Fits) (k : AlarmKind) (i : Nat) : (l.remove k i).Fits :=
  ⟨(List.length_filter_le _ _).trans h.1, h.2.1.filter _, by simp [AlarmList.remove]⟩

/-- A new entry keeps the list fitting, where no entry has its kind and source (R176). -/
theorem Fits.append {l : AlarmList} (h : l.Fits) (e : AlarmEntry)
    (hn : ∀ x ∈ l.entries, ¬(x.kind = e.kind ∧ x.index = e.index)) : (l.append e).Fits := by
  have joined (l' : List AlarmEntry) (hs : l'.Sublist l.entries) :
      (l' ++ [e]).Pairwise (fun a b => ¬(a.kind = b.kind ∧ a.index = b.index)) :=
    List.pairwise_append.mpr ⟨h.2.1.sublist hs, List.pairwise_singleton _ _,
      fun a ha b hb => by simp at hb; subst hb; exact hn a (hs.subset ha)⟩
  unfold AlarmList.append
  split
  · rename_i hl
    refine ⟨by simpa using hl, joined _ (List.Sublist.refl _), fun hf => ?_⟩
    have := h.2.2 hf
    omega
  · rename_i hl
    have hlen : l.entries.length = Config.alarmCapacity := Nat.le_antisymm h.1 (Nat.le_of_not_lt hl)
    split
    · rename_i ha
      obtain ⟨x, hx, hp⟩ := List.any_eq_true.mp ha
      have he := List.length_eraseP_of_mem (p := fun x => x.state == .ended) hx hp
      have hc : 0 < Config.alarmCapacity := by decide
      have hlen' : (l.entries.eraseP (fun x => x.state == .ended) ++ [e]).length = Config.alarmCapacity := by
        simp only [List.length_append, List.length_singleton, he, hlen]
        omega
      exact ⟨hlen'.le, joined _ List.eraseP_sublist, fun _ => hlen'⟩
    · exact ⟨h.1, h.2.1, fun _ => hlen⟩

theorem Fits.rise {l : AlarmList} (h : l.Fits) (k : AlarmKind) (i : Nat) (t : Time) (unset : Bool) :
    (l.rise k i t unset).Fits := by
  unfold AlarmList.rise
  split
  · next hn => exact h.append _ (lookup_none hn)
  · split
    · exact h.change _ _ _ fun e => by simp [again]
    · exact h

theorem Fits.finish {l : AlarmList} (h : l.Fits) (k : AlarmKind) (i : Nat) : (l.finish k i).Fits := by
  unfold AlarmList.finish
  split
  · exact h
  · split
    · exact h.change _ _ _ fun e => by simp
    · exact h.remove _ _
    · exact h

theorem Fits.moment {l : AlarmList} (h : l.Fits) (k : AlarmKind) (i : Nat) (t : Time) (unset : Bool) :
    (l.moment k i t unset).Fits := by
  unfold AlarmList.moment
  split
  · next hn => exact h.append _ (lookup_none hn)
  · exact h.change _ _ _ fun e => by simp [again]

theorem Fits.acknowledge {l : AlarmList} (h : l.Fits) (k : AlarmKind) (i : Nat) : (l.acknowledge k i).Fits := by
  unfold AlarmList.acknowledge
  split
  · exact h
  · split
    · exact h.change _ _ _ fun e => by simp
    · exact h.remove _ _
    · exact h

theorem Fits.acknowledgeAll {l : AlarmList} (h : l.Fits) : l.acknowledgeAll.Fits := by
  refine ⟨?_, ?_, ?_⟩
  · simpa [AlarmList.acknowledgeAll] using (List.length_filter_le _ _).trans h.1
  · exact List.pairwise_map.mpr ((h.2.1.filter _).imp fun hab => by simpa using hab)
  · simp only [AlarmList.acknowledgeAll, Bool.and_eq_true, Bool.not_eq_true', List.any_eq_false, List.length_map]
    intro ⟨hf, ha⟩
    rw [List.filter_eq_self.mpr fun e he => by simpa using ha e he]
    exact h.2.2 hf

end AlarmList

/-! ### Deliveries to the list -/

/-- A delivery changes the alarm list and nothing else, and keeps it sound. -/
theorem raiseAlarm_spec (k : AlarmKind) (i : Nat) (s : State) :
    ∃ l, raiseAlarm k i s = s.setAlarms l ∧ (s.alarms.Sound → l.Sound) :=
  ⟨_, rfl, fun h => (h.fits.rise ..).judged⟩

theorem endAlarm_spec (k : AlarmKind) (i : Nat) (s : State) :
    ∃ l, endAlarm k i s = s.setAlarms l ∧ (s.alarms.Sound → l.Sound) :=
  ⟨_, rfl, fun h => (h.fits.finish ..).judged⟩

theorem momentAlarm_spec (k : AlarmKind) (i : Nat) (s : State) :
    ∃ l, momentAlarm k i s = s.setAlarms l ∧ (s.alarms.Sound → l.Sound) :=
  ⟨_, rfl, fun h => (h.fits.moment ..).judged⟩

theorem alarmChange_spec (k : AlarmKind) (i : Nat) (before after : Bool) (s : State) :
    ∃ l, alarmChange k i before after s = s.setAlarms l ∧ (s.alarms.Sound → l.Sound) := by
  unfold alarmChange
  split
  · exact raiseAlarm_spec k i s
  · split
    · exact endAlarm_spec k i s
    · exact ⟨s.alarms, rfl, id⟩

/-- A condition that has not changed delivers nothing. -/
@[simp] theorem alarmChange_same (k : AlarmKind) (i : Nat) (b : Bool) (s : State) : alarmChange k i b b s = s := by
  cases b <;> rfl

end Sys2Proof.Machine
end

