-- ==== Sys2Proof/Laws/Counts.lean ====
section
/-! SUPPORT. Laws/Counts.lean: the records of the pulse channels, the check, the stations, the line and the accounts
that their own operations leave, each coherent where it was coherent before. -/

namespace Sys2Proof.Machine

/-! ### Pulse channels (R102, R107) -/

theorem Meter.countPulse_coherent {m : Meter} (h : m.Coherent) : m.countPulse.Coherent := by
  obtain ⟨h1, h2, h3⟩ := h
  unfold Meter.countPulse
  split
  · exact ⟨h1, h2, h3⟩
  · split
    · exact ⟨by dsimp only; omega, by simp_all, h3⟩
    · split
      · exact ⟨h1, fun _ => ⟨by assumption, by dsimp only; omega⟩, h3⟩
      · exact ⟨by simp, by simp_all, h3⟩

theorem Meter.timePulse_coherent {m : Meter} (h : m.Coherent) : m.timePulse.Coherent :=
  ⟨h.1, h.2.1, by simp [Meter.timePulse]⟩

theorem Meter.stopInterval_coherent {m : Meter} (h : m.Coherent) : m.stopInterval.Coherent := by
  unfold Meter.stopInterval
  split
  · exact ⟨h.1, h.2.1, by simp⟩
  · exact h

theorem Meter.closed_coherent (minute : Bool) (v : Int) (e : Bool) {m : Meter} (h : m.Coherent) :
    (m.closed minute v e).Coherent :=
  ⟨by simp [Meter.closed], by simp [Meter.closed], h.2.2⟩

theorem Meter.startUp_coherent : Meter.startUp.Coherent := by simp [Meter.Coherent, Meter.startUp]

theorem Meter.recommitted_coherent (was now : MeterEntry) {m : Meter} (h : m.Coherent) :
    (m.recommitted was now).Coherent := by
  unfold Meter.recommitted
  split
  · split
    · exact ⟨h.1, h.2.1, by simp⟩
    · exact h
  · exact h
  · exact Meter.startUp_coherent

/-- A pulse on a window that is not saturated raises the window count by 1, or saturates it at 131,071 (R102). -/
theorem Meter.countPulse_count {m : Meter} (h : m.counter < 65536) (hs : m.saturated = false) :
    if m.count = 131071 then m.countPulse = { m with saturated := true } else m.countPulse.count = m.count + 1 := by
  obtain ⟨counter, stage, saturated, full, interval, lastInterval, lastFull, lastVolume, lastEstimated⟩ := m
  dsimp only at h hs
  subst hs
  cases stage <;> simp only [Meter.countPulse, Meter.count, Bool.false_eq_true, if_false, if_true] <;>
    (repeat' split) <;> simp_all <;> omega

/-! ### The check (R110 to R113) -/

theorem Check.cutShort_coherent {c : Check} (h : c.Coherent) (st : CheckState) (hst : st = .timedOut ∨ st = .aborted)
    (cause : Option CheckCause) : (c.cutShort st cause).Coherent := by
  have h5 := h.2.2.2.2
  rcases hst with rfl | rfl <;> simp [Check.Coherent, Check.cutShort, h5]

theorem Check.startUp_coherent : Check.startUp.Coherent := by simp [Check.Coherent, Check.startUp]

/-! ### Stations (R142 to R144, R146, R154) -/

theorem Station.judged_coherent (limit : Int) {r : Station} (h : r.misses ≤ 3 ∧ (r.presence = .absent ↔ r.misses = 3) ∧
    r.age ≤ 65535) : (r.judged limit).Coherent := by
  refine ⟨h.1, h.2.1, h.2.2, ?_⟩
  unfold Station.judged
  dsimp only
  cases hr : r.reading
  · simp
  · simp only [Option.isNone_some, Bool.false_eq_true, if_false]
    split <;> simp

theorem Station.answered_coherent (manual : Bool) (result : AskResult) {r : Station} (h : r.Coherent) :
    (r.answered manual result).Coherent := by
  obtain ⟨h1, h2, h3, h4⟩ := h
  have missed : (if manual then r
      else { r with misses := min 3 (r.misses + 1),
                    presence := if min 3 (r.misses + 1) = 3 then .absent else r.presence }).Coherent := by
    split
    · exact ⟨h1, h2, h3, h4⟩
    · refine ⟨by dsimp only; omega, ?_, h3, h4⟩
      dsimp only
      split
      · simp_all
      · next hm =>
        rw [h2]
        omega
  unfold Station.answered
  split
  · exact ⟨by simp, by simp, h3, h4⟩
  · exact ⟨h1, h2, h3, h4⟩
  · exact missed

theorem Station.gated_coherent (e : StationEntry) {f : StationFrame} (hf : f.age < 256) (g : Option Gating)
    {r : Station} (h : r.Coherent) : (r.gated e f g).Coherent := by
  unfold Station.gated
  split
  · exact Station.judged_coherent _ ⟨h.1, h.2.1, by dsimp only; omega⟩
  · exact h
  · exact h

theorem Station.second_coherent (limit : Int) {r : Station} (h : r.Coherent) : (r.second limit).Coherent := by
  unfold Station.second
  split
  · exact Station.judged_coherent _ ⟨h.1, h.2.1, by dsimp only; omega⟩
  · exact h

theorem Station.startUp_coherent : Station.startUp.Coherent := by simp [Station.Coherent, Station.startUp]

theorem Station.recommitted_coherent (was now : StationEntry) {r : Station} (h : r.Coherent) :
    (r.recommitted was now).Coherent := by
  unfold Station.recommitted
  split
  · have h1 : (if was.district ≠ now.district then
        { r with reading := none, freshness := Freshness.noReading, lastGating := none } else r).Coherent := by
      split
      · exact ⟨h.1, h.2.1, h.2.2.1, by simp⟩
      · exact h
    dsimp only
    split
    · exact Station.judged_coherent _ ⟨h1.1, h1.2.1, h1.2.2.1⟩
    · exact h1
  · exact h
  · exact Station.startUp_coherent

/-- A slot gives ABSENT with 3 misses, or another presence with none (R146). -/
theorem slotPresence_spec (n : StationId) (bytes : List Byte) :
    ((slotPresence n bytes).1 = .absent ↔ (slotPresence n bytes).2 = 3) ∧ (slotPresence n bytes).2 ≤ 3 := by
  unfold slotPresence
  split
  · simp
  · split
    · split <;> simp
    · simp

/-- A frame's reading age is one byte (R194). -/
theorem frameOf_age {l : List Byte} {f : StationFrame} (h : frameOf l = some f) : f.age < 256 := by
  unfold frameOf at h
  split at h
  · next a c v1 v0 g k =>
    split at h
    · rw [← Option.some.inj h]
      exact g.isLt
    · cases h
  · cases h

/-! ### Accounts (R164 to R166) -/

/-- A signature is no part of the bytes it signs (R164). -/
theorem Record.body_of_signature (r : Record) (w : Word16) : ({ r with signature := w } : Record).body = r.body := rfl

/-- A record signed is the record with some signature; that signature is the CRC-16 of R164. -/
theorem Record.sign_spec (r : Record) :
    ∃ w, r.sign = { r with signature := w } ∧ w = crc16 (wordBytes r.prevSignature ++ r.body) :=
  ⟨_, rfl, rfl⟩

/-- A chained record takes the next number and the last signature, and is signed over both (R164). -/
theorem Record.chained_spec (r : Record) (a : Account) :
    (r.chained a).sequence = a.nextSequence ∧ (r.chained a).prevSignature = a.lastSignature ∧
      (r.chained a).signature = crc16 (wordBytes (r.chained a).prevSignature ++ (r.chained a).body) := by
  obtain ⟨w, h, e⟩ := Record.sign_spec { r with sequence := a.nextSequence, prevSignature := a.lastSignature }
  unfold Record.chained
  rw [h, Record.body_of_signature]
  exact ⟨rfl, rfl, e⟩

theorem dropOne_sublist (q : List Record) : (dropOne q).Sublist q := by
  unfold dropOne
  split
  · exact List.eraseP_sublist
  · exact List.tail_sublist q

theorem dropOne_length (q : List Record) : (dropOne q).length = q.length - 1 := by
  unfold dropOne
  split
  · next ha =>
    obtain ⟨x, hx, hp⟩ := List.any_eq_true.mp ha
    exact List.length_eraseP_of_mem (p := fun r => !r.dayRecord) hx hp
  · simp

/-- A change of the Account Unit that leaves the queue and the chain alone keeps it sound. -/
theorem Account.Sound.of_same {a b : Account} (h : a.Sound) (hq : b.queue = a.queue)
    (hn : b.nextSequence = a.nextSequence) (hl : b.lastSignature = a.lastSignature) : b.Sound := by
  unfold Account.Sound
  rw [hq, hn, hl]
  exact h

/-- An account that has filed a record: numbered and chained, at the tail of what the queue keeps (R164, R165). -/
theorem Account.Sound.filed {a : Account} (h : a.Sound) (r : Record) {q : List Record} (hq : q.Sublist a.queue)
    (hlen : q.length < Config.accountCapacity) :
    ({ a with nextSequence := (a.nextSequence + 1) % 65536, lastSignature := (r.chained a).signature,
              queue := q ++ [r.chained a] } : Account).Sound := by
  obtain ⟨h1, h2, h3⟩ := r.chained_spec a
  generalize r.chained a = x at h1 h2 h3 ⊢
  refine ⟨by simpa using hlen, Nat.mod_lt _ (by decide), fun y hy => ?_, fun y hy => ?_⟩
  · rcases List.mem_append.mp hy with hy | hy
    · exact h.2.2.1 y (hq.subset hy)
    · rw [List.mem_singleton.mp hy]
      exact h3
  · simp only [List.getLast?_append, List.getLast?_singleton, Option.some_or, Option.some.injEq] at hy
    exact hy ▸ ⟨rfl, by rw [h1]⟩

/-- A queue freed from its front is a later part of itself (R166). -/
theorem freed_suffix (q : List Record) (n : Nat) :
    ((q.dropWhile fun r => r.sequence != n).tail) <:+ q :=
  (List.tail_suffix _).trans (List.dropWhile_suffix _)

theorem getLast_of_suffix {α : Type} {l m : List α} (h : l <:+ m) {x : α} (hx : l.getLast? = some x) :
    m.getLast? = some x := by
  obtain ⟨t, rfl⟩ := h
  rw [List.getLast?_append, hx, Option.some_or]

end Sys2Proof.Machine
end

