-- ==== Sys2Proof/Laws/Yard.lean ====
section
/-! SUPPORT. Laws/Yard.lean: the blocks of the yard reach one another through a few updates only. A property that those
updates keep is kept by every operation of the Valve Unit, the Pressure Unit, the Yard Plan and the deliveries between
them. Frames and invariants of the yard's commands are applications of these lemmas. -/

namespace Sys2Proof.Machine

/-! ### Records the operations leave coherent -/

theorem Valve.driven_coherent (x : Valve) (d : Direction) (o : Originator) : (x.driven d o).Coherent := by
  cases d <;> simp [Valve.Coherent, Valve.driven, Direction.travel, Direction.drive]

theorem Valve.atRest_coherent (x : Valve) (d : Direction) : (x.atRest d).Coherent := by
  cases d <;> simp [Valve.Coherent, Valve.atRest, Direction.rest]

theorem Valve.faulted_coherent (x : Valve) {c : FaultCause} (hc : c ≠ .noCause) : (x.faulted c).Coherent := by
  simp [Valve.Coherent, Valve.faulted, hc]

theorem Valve.startUp_coherent (b : Bool) : (Valve.startUp b).Coherent := by
  cases b <;> simp [Valve.Coherent, Valve.startUp]

theorem HolderControl.startUp_coherent : HolderControl.startUp.Coherent := by
  simp [HolderControl.Coherent, HolderControl.startUp]

/-- A queue that loses its head stays coherent, its new head waiting. -/
theorem HolderControl.Coherent.drop {c : HolderControl} {e : QueueEntry} {rest : List QueueEntry}
    (h : c.Coherent) (hq : c.queue = e :: rest) :
    rest.length ≤ Config.orderCapacity ∧ (∀ x ∈ rest.tail, x.running = false) ∧ (rest ≠ [] → c.control = .manual) := by
  have h1 := h.1
  have h2 := h.2.1
  have h3 := h.2.2
  simp only [hq, List.length_cons, List.tail_cons] at h1 h2 h3
  exact ⟨by omega, fun x hx => h2 x (List.mem_of_mem_tail hx), fun _ => h3 (by simp)⟩

theorem Booster.stopped_coherent (b : Booster) : b.stopped.Coherent := by simp [Booster.Coherent, Booster.stopped]

theorem Booster.fails_coherent (b : Booster) (c : BoosterCause) : (b.fails c).Coherent := by
  simp [Booster.Coherent, Booster.fails]

/-- A booster whose run line is driven is proved. -/
theorem Booster.proves_coherent {b : Booster} (h : b.runLine = true) : b.proves.Coherent := by
  simp [Booster.Coherent, Booster.proves, h]

theorem boosterAct_coherent (fitted present : Bool) {b : Booster} (h : b.Coherent) :
    (boosterAct fitted present b).Coherent := by
  unfold boosterAct
  cases hs : b.state <;> simp only [Booster.Coherent, hs] at h ⊢
  · split
    · split <;> simp_all [Booster.proves]
    · simpa [hs] using h
  · simpa [hs] using h
  · split
    · simpa [hs] using h
    · simp_all
  · split
    · simp_all [Booster.proves]
    · simpa [hs] using h
  · simpa [hs] using h

theorem boosterContact_coherent (p : Pair) {b : Booster} (h : b.Coherent) : (boosterContact p b).Coherent := by
  unfold boosterContact
  cases hs : b.state <;> simp only
  · simpa [Booster.Coherent, hs] using h
  · split
    · exact Booster.proves_coherent (by simp_all [Booster.Coherent])
    · simpa [Booster.Coherent, hs] using h
  · split
    · exact Booster.fails_coherent _ _
    · simpa [Booster.Coherent, hs] using h
  · split
    · exact Booster.fails_coherent _ _
    · simpa [Booster.Coherent, hs] using h
  · simpa [Booster.Coherent, hs] using h

theorem boosterFeedLost_coherent {b : Booster} (h : b.Coherent) : (boosterFeedLost b).Coherent := by
  unfold boosterFeedLost
  split
  · exact b.stopped_coherent
  · exact h

/-! ### The updates of the yard -/

/-- A property of states that every update of the Valve Unit, the Pressure Unit and the Yard Plan keeps. Valves, order
queues, the alarm list and the booster only ever go from a coherent record to a coherent one. -/
structure PlanClosed (P : State → Prop) : Prop where
  valve : ∀ s (v : ValveId) (x : Valve), P s → (s.valves[v].Coherent → x.Coherent) → P (s.setValve v x)
  control : ∀ s (h : HolderId) (x : HolderControl), P s → (s.controls[h].Coherent → x.Coherent) →
    x.control = s.controls[h].control → P (s.setControl h x)
  plan : ∀ s x, P s → P (s.setPlan x)
  alarms : ∀ s l, P s → (s.alarms.Sound → l.Sound) → P (s.setAlarms l)
  booster : ∀ s b, P s → (s.booster.Coherent → b.Coherent) → P (s.setBooster b)
  press : ∀ s x, P s → P (s.setPress x)
  districts : ∀ s (x : Vector District 4), P s → P { s with districts := x }
  flags : ∀ s f, P s → P (markPeriods f s)

/-- One that the Holder Unit's updates keep too. -/
structure YardClosed (P : State → Prop) : Prop extends PlanClosed P where
  holders : ∀ s (x : Vector HolderRec 4), P s → P { s with holders := x }

/-- A state carried through a list keeps what each step keeps. -/
theorem inOrder_kept {α : Type} {P : State → Prop} {f : α → State → State} (l : List α)
    (hf : ∀ a ∈ l, ∀ s, P s → P (f a s)) {s : State} (h : P s) : P (inOrder l f s) := by
  unfold inOrder
  induction l generalizing s with
  | nil => exact h
  | cons a l ih =>
    exact ih (fun b hb => hf b (List.mem_cons_of_mem _ hb)) (hf a (List.mem_cons_self ..) s h)

namespace PlanClosed

variable {P : State → Prop} (hP : PlanClosed P) {s : State}
include hP

theorem kept_raise (k : AlarmKind) (i : Nat) (h : P s) : P (raiseAlarm k i s) := by
  obtain ⟨l, e, hl⟩ := raiseAlarm_spec k i s
  exact e ▸ hP.alarms s l h hl

theorem kept_end (k : AlarmKind) (i : Nat) (h : P s) : P (endAlarm k i s) := by
  obtain ⟨l, e, hl⟩ := endAlarm_spec k i s
  exact e ▸ hP.alarms s l h hl

theorem kept_moment (k : AlarmKind) (i : Nat) (h : P s) : P (momentAlarm k i s) := by
  obtain ⟨l, e, hl⟩ := momentAlarm_spec k i s
  exact e ▸ hP.alarms s l h hl

theorem kept_change (k : AlarmKind) (i : Nat) (b a : Bool) (h : P s) : P (alarmChange k i b a s) := by
  obtain ⟨l, e, hl⟩ := alarmChange_spec k i b a s
  exact e ▸ hP.alarms s l h hl

/-! ### The Valve Unit -/

theorem kept_tellPlan (n : PlanNote) (h : P s) : P (tellPlan n s) := hP.plan _ _ h

/-- A valve given a record that is coherent whatever the old one was. -/
theorem kept_valve (v : ValveId) {x : Valve} (hx : x.Coherent) (h : P s) : P (s.setValve v x) :=
  hP.valve _ _ _ h fun _ => hx

theorem kept_tellEnd (v : ValveId) (r : EndResult) (h : P s) : P (tellEnd v r s) := by
  unfold tellEnd
  dsimp only
  split
  · exact hP.kept_tellPlan _ (hP.valve _ _ _ h id)
  · exact hP.kept_tellPlan _ h

theorem kept_enterFault (v : ValveId) {c : FaultCause} (hc : c ≠ .noCause) (h : P s) : P (enterFault v c s) := by
  unfold enterFault
  dsimp only
  have h' := hP.kept_valve v (s.valves[v].faulted_coherent hc) h
  split
  · exact hP.kept_raise _ _ h'
  · exact h'

theorem kept_comeToRest (v : ValveId) (d : Direction) (h : P s) : P (comeToRest v d s) := by
  unfold comeToRest
  dsimp only
  have h' := hP.kept_valve v (s.valves[v].atRest_coherent d) h
  split
  · exact h'
  · exact hP.kept_end _ _ h'

theorem kept_completeAtOnce (v : ValveId) (o : Originator) (r : EndResult) (h : P s) :
    P (completeAtOnce v o r s) := by
  unfold completeAtOnce
  split
  · exact hP.kept_tellPlan _ h
  · exact h

theorem kept_orderResting (v : ValveId) (d : Direction) (o : Originator) (h : P s) :
    P (orderResting v d o s).1 := by
  unfold orderResting
  dsimp only
  split
  · exact hP.kept_completeAtOnce _ _ _ (hP.valve _ _ _ h id)
  · exact hP.kept_tellPlan _ (hP.kept_valve v (Valve.driven_coherent ..) h)

theorem kept_orderTravelling (v : ValveId) (d : Direction) (o : Originator) (h : P s) :
    P (orderTravelling v d o s).1 := by
  unfold orderTravelling
  dsimp only
  by_cases hd : s.valves[v].state = d.travel
  · rw [if_pos hd]
    exact hP.valve _ _ _ h id
  · rw [if_neg hd]
    split
    · exact hP.kept_completeAtOnce _ _ _ h
    · exact hP.kept_tellPlan _ (hP.kept_valve v (Valve.driven_coherent ..) h)

theorem kept_orderFaulted (v : ValveId) (d : Direction) (o : Originator) (hs : s.valves[v].state = .fault) (h : P s) :
    P (orderFaulted v d o s).1 := by
  unfold orderFaulted
  by_cases hl : s.valves[v].position = d.limit <;> simp only [hl, if_true, if_false]
  · have h' := hP.kept_comeToRest v d (hP.valve _ v
      { s.valves[v] with originator := o, confirmed := s.valves[v].confirmed && decide (d ≠ .toClose) } h
      id)
    exact hP.kept_tellPlan _ h'
  · split
    · exact hP.kept_completeAtOnce _ _ _ (hP.valve _ _ _ h fun hc => by simp_all [Valve.Coherent])
    · exact hP.kept_tellPlan _ (hP.kept_valve v (Valve.driven_coherent ..) h)

theorem kept_carryOut (v : ValveId) (d : Direction) (o : Originator) (h : P s) : P (carryOut v d o s).1 := by
  unfold carryOut
  split
  · exact hP.kept_orderResting _ _ _ h
  · exact hP.kept_orderResting _ _ _ h
  · exact hP.kept_orderTravelling _ _ _ h
  · exact hP.kept_orderTravelling _ _ _ h
  · next hs => exact hP.kept_orderFaulted _ _ _ hs h

end PlanClosed

theorem completeAtOnce_controls (v : ValveId) (o : Originator) (r : EndResult) (s : State) :
    (completeAtOnce v o r s).controls = s.controls := by
  unfold completeAtOnce; split <;> rfl

theorem comeToRest_controls (v : ValveId) (d : Direction) (s : State) : (comeToRest v d s).controls = s.controls := by
  unfold comeToRest; dsimp only; split <;> rfl

/-- An order leaves every order queue as it was. -/
theorem carryOut_controls (v : ValveId) (d : Direction) (o : Originator) (s : State) :
    (carryOut v d o s).1.controls = s.controls := by
  have resting : (orderResting v d o s).1.controls = s.controls := by
    unfold orderResting; dsimp only; split <;> simp [completeAtOnce_controls, tellPlan]
  have travelling : (orderTravelling v d o s).1.controls = s.controls := by
    unfold orderTravelling
    by_cases hd : s.valves[v].state = d.travel
    · simp only [hd, if_true, State.setValve_controls]
    · simp only [hd, if_false]
      by_cases hp : s.valves[v].originator = .protection
      · simp only [hp, if_true, completeAtOnce_controls]
      · simp only [hp, if_false, tellPlan, State.setPlan_controls, State.setValve_controls]
  have faulted : (orderFaulted v d o s).1.controls = s.controls := by
    unfold orderFaulted
    by_cases hl : s.valves[v].position = d.limit
    · simp only [hl, if_true, tellPlan, State.setPlan_controls, comeToRest_controls, State.setValve_controls]
    · simp only [hl, if_false]
      split <;> simp [completeAtOnce_controls, tellPlan]
  unfold carryOut
  split <;> assumption

namespace PlanClosed

variable {P : State → Prop} (hP : PlanClosed P) {s : State}
include hP

/-- A queue that loses its head. -/
theorem kept_dropped (h : HolderId) {e : QueueEntry} {rest : List QueueEntry} (hq : s.controls[h].queue = e :: rest)
    (hs : P s) : P (setQueue h rest s) :=
  hP.control _ _ _ hs (fun hc => hc.drop hq) rfl

theorem kept_refuseHead (h : HolderId) (o : HandOrder) (i : Interlock) {e : QueueEntry} {rest : List QueueEntry}
    (hq : s.controls[h].queue = e :: rest) (hs : P s) : P (refuseHead h o i rest s) :=
  hP.kept_moment _ _ (hP.control _ _ _ hs (fun hc => hc.drop hq) rfl)

theorem kept_runQueue (n : Nat) (h : HolderId) (hs : P s) : P (runQueue n h s) := by
  induction n generalizing s with
  | zero => exact hs
  | succ n ih =>
    unfold runQueue
    split
    · exact hs
    · next e rest hq =>
      split
      · exact hs
      · split
        · exact ih (hP.kept_refuseHead _ _ _ hq hs)
        · have hc := hP.kept_carryOut (e.order.valve h) e.order.direction .manual hs
          have hk := carryOut_controls (e.order.valve h) e.order.direction .manual s
          generalize carryOut (e.order.valve h) e.order.direction .manual s = r at hc hk ⊢
          have hq' : r.1.controls[h].queue = e :: rest := by rw [hk]; exact hq
          split
          · exact ih (hP.kept_dropped h hq' hc)
          · refine hP.control _ _ _ hc (fun hco => ?_) rfl
            simp only [HolderControl.Coherent, hq'] at hco ⊢
            exact ⟨hco.1, hco.2.1, fun _ => hco.2.2 (by simp)⟩

theorem kept_dropHead (v : ValveId) (hs : P s) : P (dropHead v s) := by
  unfold dropHead
  dsimp only
  split
  · next hq =>
    split
    · exact hP.kept_dropped _ hq hs
    · exact hs
  · exact hs

theorem kept_afterEnd (v : ValveId) (hs : P s) : P (afterEnd v s) := hP.kept_runQueue _ _ (hP.kept_dropHead v hs)

theorem kept_arrive (v : ValveId) (d : Direction) (hs : P s) : P (arrive v d s) := by
  have h1 := hP.kept_comeToRest v d (hP.valve s v { s.valves[v] with
    lastTravel := some (seconds (s.valves[v].timer.getD 0)),
    confirmed := s.valves[v].confirmed && decide (d ≠ .toClose) } hs id)
  unfold arrive
  refine hP.kept_afterEnd v (hP.kept_tellEnd v _ ?_)
  split
  · exact hP.kept_moment _ _ h1
  · exact h1

theorem kept_faultTravel (v : ValveId) {c : FaultCause} (hc : c ≠ .noCause) (hs : P s) : P (faultTravel v c s) :=
  hP.kept_afterEnd v (hP.kept_tellEnd v _ (hP.kept_enterFault v hc hs))

theorem kept_faultAtRest (v : ValveId) {c : FaultCause} (hc : c ≠ .noCause) (hs : P s) : P (faultAtRest v c s) :=
  hP.kept_tellPlan _ (hP.kept_enterFault v hc hs)

theorem kept_recover (v : ValveId) (p : Position) (hf : s.valves[v].state = .fault) (hs : P s) :
    P (recover v p s) := by
  unfold recover
  dsimp only
  split
  · exact hP.kept_tellPlan _ (hP.kept_comeToRest _ _ hs)
  · exact hP.kept_tellPlan _ (hP.kept_comeToRest _ _ hs)
  · exact hP.valve _ _ _ hs fun hc => by simp_all [Valve.Coherent]
  · exact hP.valve _ _ _ hs fun hc => by simp_all [Valve.Coherent]
  · exact hs

theorem kept_unconfirm (v : ValveId) (hs : P s) : P (unconfirm v s) := by
  unfold unconfirm
  dsimp only
  split
  · exact hP.valve _ _ _ hs id
  · exact hs

theorem kept_actOnPosition (v : ValveId) (hs : P s) : P (actOnPosition v s) := by
  unfold actOnPosition
  dsimp only
  split
  · exact hP.kept_arrive _ _ hs
  · exact hP.kept_arrive _ _ hs
  · exact hP.kept_faultTravel _ (by decide) hs
  · exact hP.kept_faultTravel _ (by decide) hs
  · exact hP.kept_faultAtRest _ (by decide) hs
  · exact hP.kept_faultAtRest _ (by decide) hs
  · split
    · exact hs
    · exact hP.kept_faultAtRest _ (by decide) hs
  · split
    · exact hs
    · exact hP.kept_faultAtRest _ (by decide) hs
  · split
    · exact hs
    · exact hP.kept_faultAtRest _ (by decide) hs
  · split
    · exact hs
    · exact hP.kept_faultAtRest _ (by decide) hs
  · next hf =>
    split
    · exact hP.kept_recover _ _ hf hs
    · exact hs
  · exact hs

theorem kept_judgeValve (v : ValveId) (hs : P s) : P (judgeValve v s) := by
  unfold judgeValve
  split
  · exact hP.kept_actOnPosition v (hP.kept_unconfirm v hs)
  · exact hs

theorem kept_takeValvePairs (ds : List Delivery) (hs : P s) : P (takeValvePairs ds s) := by
  refine inOrder_kept ds (fun d _ s hs => ?_) hs
  unfold takeValvePair
  dsimp only
  split
  · split
    · exact hP.valve _ _ _ hs id
    · exact hs
  · split
    · exact hP.valve _ _ _ hs id
    · exact hs
  · exact hs

theorem kept_judgeValves (ds : List Delivery) (hs : P s) : P (judgeValves ds s) :=
  inOrder_kept _ (fun v _ _ => hP.kept_judgeValve v) hs

theorem kept_flushQueue (h : HolderId) (hs : P s) : P (flushQueue h s) := by
  have h1 := hP.control s h { s.controls[h] with queue := [], lastFlush := s.controls[h].queue.length } hs
    (fun _ => by simp [HolderControl.Coherent]) rfl
  unfold flushQueue
  dsimp only
  split
  · exact hP.kept_moment _ _ h1
  · exact h1

theorem kept_protect (v : ValveId) (hs : P s) : P (protect v s) := by
  unfold protect
  split
  · exact hP.kept_carryOut _ _ _ hs
  · exact hs

theorem kept_protectHolder (h : HolderId) (top bottom : Bool) (hs : P s) : P (protectHolder h top bottom s) := by
  unfold protectHolder
  cases top <;> cases bottom
  · exact hs
  · exact hP.kept_flushQueue _ (hP.kept_protect _ hs)
  · exact hP.kept_flushQueue _ (hP.kept_protect _ hs)
  · exact hP.kept_flushQueue _ (hP.kept_protect _ (hP.kept_protect _ hs))

theorem kept_planOrder (v : ValveId) (d : Direction) (hs : P s) : P (planOrder v d s) := by
  unfold planOrder
  split
  · exact hP.kept_tellPlan _ hs
  · have hc := hP.kept_carryOut v d .plan hs
    generalize carryOut v d .plan s = r at hc ⊢
    split
    · exact hP.kept_afterEnd v hc
    · exact hc

theorem kept_travelExpired (v : ValveId) (hs : P s) : P (travelExpired v s) := by
  unfold travelExpired
  split
  · exact hP.kept_faultTravel _ (by decide) hs
  · exact hs

theorem kept_confirmValve (v : ValveId) (hs : P s) : P (confirmValve v s) :=
  hP.kept_tellPlan _ (hP.kept_end _ _ (hP.kept_valve v
    (by simpa [Valve.Coherent] using s.valves[v].atRest_coherent .toClose) hs))

theorem kept_deriveValve (v : ValveId) (hs : P s) : P (deriveValve v s) := by
  unfold deriveValve
  dsimp only
  split
  · exact hP.kept_valve v (by simp [Valve.Coherent]) hs
  · exact hP.kept_valve v (by simp [Valve.Coherent]) hs
  · exact hP.kept_raise _ _ (hP.kept_valve v (by simp [Valve.Coherent]) hs)
  · exact hP.kept_raise _ _ (hP.kept_valve v (by simp [Valve.Coherent]) hs)
  · exact hP.kept_raise _ _ (hP.kept_valve v (by simp [Valve.Coherent]) hs)

theorem kept_deriveValves (hs : P s) : P (deriveValves s) := by
  refine inOrder_kept _ (fun v _ s hs => ?_) hs
  split
  · exact hP.kept_deriveValve v hs
  · exact hs

theorem kept_protectAtLimit (v : ValveId) (hs : P s) : P (protectAtLimit v s) := by
  unfold protectAtLimit
  dsimp only
  generalize (if isInlet v then s.holders[ownerOf v].top else s.holders[ownerOf v].bottom) = b
  cases b
  · exact hs
  · exact hP.kept_flushQueue _ (hP.kept_protect _ hs)

theorem kept_commissionValve (v : ValveId) (hs : P s) : P (commissionValve v s) :=
  hP.kept_protectAtLimit v (hP.kept_tellPlan _ (hP.kept_deriveValve v (hP.kept_valve v
    (by simpa [Valve.Coherent, freshValve] using Valve.startUp_coherent true) hs)))

theorem kept_commitValve (was : Bool) (ds : List Delivery) (v : ValveId) (hs : P s) : P (commitValve was ds v s) := by
  unfold commitValve
  dsimp only
  split
  · have h1 := hP.kept_valve v (Valve.startUp_coherent false) hs
    refine hP.kept_tellPlan _ ?_
    split
    · exact h1
    · exact hP.kept_end _ _ h1
  · exact hP.kept_commissionValve v hs
  · split
    · exact hP.kept_judgeValve v hs
    · exact hs
  · exact hs

theorem kept_commitValves (hr : ∀ s h, P s → P (s.setControl h HolderControl.startUp)) (old : Tables)
    (ds : List Delivery) (hs : P s) : P (commitValves old ds s) := by
  refine inOrder_kept _ (fun v _ _ => hP.kept_commitValve _ ds v) (hP.kept_takeValvePairs ds ?_)
  refine inOrder_kept _ (fun h _ s hs => ?_) hs
  split
  · exact hs
  · exact hr _ _ hs

/-! ### The Pressure Unit -/

theorem kept_putBooster {b : Booster} (hb : s.booster.Coherent → b.Coherent) (hs : P s) : P (putBooster b s) :=
  hP.kept_change _ _ _ _ (hP.booster _ _ hs hb)

theorem kept_mapDistricts (f : DistrictId → District) (hs : P s) : P (mapDistricts f s) := hP.districts _ _ hs

theorem kept_judgeBooster (hs : P s) : P (judgeBooster s) := by
  unfold judgeBooster
  dsimp only
  split
  · exact hs
  · exact hP.kept_putBooster (fun hb => boosterAct_coherent _ _ (by simpa [Booster.Coherent] using hb)) hs

theorem kept_evaluate (full : Bool) (hs : P s) : P (evaluate full s) := by
  unfold evaluate
  exact inOrder_kept _ (fun d _ _ h => hP.kept_change _ _ _ _ h) (hP.kept_mapDistricts _ (hP.press _ _
    (hP.kept_judgeBooster (hP.press _ _ (hP.kept_mapDistricts (workWanted s) hs)))))

theorem kept_promptEvaluation (hs : P s) : P (promptEvaluation s) := by
  unfold promptEvaluation
  split
  · exact hP.kept_evaluate false hs
  · exact hs

theorem kept_takePlan (hs : P s) : P (takePlan s) := by
  unfold takePlan
  dsimp only
  refine hP.press _ _ (hP.kept_mapDistricts _ ?_)
  split
  · exact hP.kept_putBooster boosterFeedLost_coherent hs
  · exact hs

theorem kept_deliverPlan (judge : Bool) (hs : P s) : P (deliverPlan judge s) := by
  unfold deliverPlan
  split
  · split
    · exact hP.kept_promptEvaluation (hP.kept_takePlan hs)
    · exact hP.kept_takePlan hs
  · exact hs

theorem kept_pressureTick (hs : P s) : P (pressureTick s) := by
  unfold pressureTick
  dsimp only
  split
  · exact hP.kept_evaluate true (hP.press _ _ hs)
  · exact hs

theorem kept_takeBoosterContact (p : Pair) (hs : P s) : P (takeBoosterContact p s) := by
  have h1 := hP.kept_putBooster (b := boosterContact p s.booster) (boosterContact_coherent p) hs
  unfold takeBoosterContact
  dsimp only
  split
  · exact hP.kept_promptEvaluation h1
  · exact h1

theorem kept_startExpired (hs : P s) : P (startExpired s) := by
  unfold startExpired
  split
  · exact hP.kept_promptEvaluation (hP.kept_putBooster (fun _ => s.booster.fails_coherent _) hs)
  · exact hs

theorem kept_runOnExpired (hs : P s) : P (runOnExpired s) := by
  unfold runOnExpired
  split
  · exact hP.kept_promptEvaluation (hP.kept_putBooster (fun _ => s.booster.stopped_coherent) hs)
  · exact hs

theorem kept_resetBooster (hs : P s) : P (resetBooster s) := by
  unfold resetBooster
  split
  · exact hP.kept_promptEvaluation (hP.kept_putBooster (fun _ => s.booster.stopped_coherent) hs)
  · exact hs

end PlanClosed

end Sys2Proof.Machine
end

