-- ==== Sys2Proof/Laws/Plan.lean ====
section
/-! SUPPORT. Laws/Plan.lean: the Yard Plan and the deliveries between the blocks of the yard keep whatever the yard's
updates keep (Laws/Yard.lean). -/

namespace Sys2Proof.Machine

namespace PlanClosed

variable {P : State → Prop} (hP : PlanClosed P) {s : State}
include hP

/-! ### The plan's records -/

theorem kept_onPlan (f : Plan → Plan) (hs : P s) : P (onPlan f s) := hP.plan _ _ hs

theorem kept_putRecord (c : Changeover) (hs : P s) : P (putRecord c s) := hP.kept_onPlan _ hs

theorem kept_endRecord (hs : P s) : P (endRecord s) := hP.kept_onPlan _ hs

theorem kept_giveFill (c : Changeover) (h : Option HolderId) (hs : P s) : P (giveFill c h s) := by
  unfold giveFill
  split
  · exact hP.kept_onPlan _ hs
  · exact hs

theorem kept_giveReliefFill (c : Changeover) (h : Option HolderId) (hs : P s) : P (giveReliefFill c h s) := by
  unfold giveReliefFill
  split
  · exact hP.kept_onPlan _ hs
  · exact hs

theorem kept_giveRole (c : Changeover) (h : Option HolderId) (hs : P s) : P (giveRole c h s) := by
  unfold giveRole
  split
  · exact hP.kept_onPlan _ hs
  · exact hP.kept_giveReliefFill _ _ (hP.kept_giveFill _ _ hs)

theorem kept_recordRole (c : Changeover) (hs : P s) : P (recordRole c s) := hP.kept_giveRole _ _ hs

theorem kept_finishRecord (c : Changeover) (hs : P s) : P (finishRecord c s) :=
  hP.kept_endRecord (hP.kept_recordRole c hs)

theorem kept_enterStuck (c : Changeover) (v : ValveId) (hs : P s) : P (enterStuck c v s) := by
  unfold enterStuck
  refine hP.kept_putRecord _ (hP.kept_onPlan _ ?_)
  split
  · exact hs
  · exact hP.kept_raise _ _ hs

/-! ### Step 1 of a plan event -/

theorem kept_gapExpired (c : Changeover) (hs : P s) : P (gapExpired c s) := by
  unfold gapExpired
  split
  · exact hP.kept_finishRecord _ hs
  · split
    · exact hP.kept_planOrder _ _ (hP.kept_putRecord _ hs)
    · exact hP.kept_endRecord (hP.kept_giveRole _ _ hs)

theorem kept_openEnded (c : Changeover) (v : ValveId) (r : EndResult) (a : ValveState) (hs : P s) :
    P (openEnded c v r a s) := by
  unfold openEnded
  dsimp only
  split
  · split
    · exact hP.kept_planOrder _ _ (hP.kept_putRecord _ (hP.kept_recordRole _ hs))
    · exact hP.kept_finishRecord _ hs
  · split
    · split
      · exact hP.kept_finishRecord _ hs
      · exact hP.kept_endRecord (hP.kept_giveRole _ _ hs)
    · exact hP.kept_enterStuck _ _ hs

theorem kept_closeEnded (c : Changeover) (v : ValveId) (r : EndResult) (a : ValveState) (hs : P s) :
    P (closeEnded c v r a s) := by
  unfold closeEnded
  dsimp only
  split
  · split
    · exact hP.kept_finishRecord _ hs
    · have h1 := hP.kept_putRecord { c with phase := .gap, gap := some 0 }
        (hP.kept_recordRole { c with phase := .gap, gap := some 0 } hs)
      split
      · exact hP.kept_gapExpired _ h1
      · exact h1
  · exact hP.kept_enterStuck _ _ hs

theorem kept_noteValve (c : Changeover) (v : ValveId) (a : ValveState) (hs : P s) : P (noteValve c v a s) := by
  unfold noteValve
  split
  · split
    · exact hP.kept_enterStuck _ _ hs
    · exact hs
  · split
    · exact hP.kept_onPlan _ hs
    · exact hs

theorem kept_takeNote (n : PlanNote) (hs : P s) : P (takeNote s n) := by
  unfold takeNote
  split
  · exact hs
  · split
    · exact hP.kept_noteValve _ _ _ hs
    · split
      · exact hP.kept_openEnded _ _ _ _ hs
      · split
        · exact hP.kept_closeEnded _ _ _ _ hs
        · exact hP.kept_noteValve _ _ _ hs

theorem kept_settleRecord (hs : P s) : P (settleRecord s) := by
  unfold settleRecord
  split
  · exact hs
  · dsimp only
    split
    · split
      · exact hP.kept_end _ _ (hP.kept_endRecord (hP.kept_giveRole _ _ hs))
      · exact hP.kept_giveRole _ _ hs
    · exact hP.kept_recordRole _ hs

theorem kept_advanceSettle (hs : P s) : P (advanceSettle s) := by
  unfold advanceSettle
  split
  · exact hs
  · exact hP.kept_onPlan _ hs

theorem kept_notes (notes : List PlanNote) (hs : P s) : P (notes.foldl takeNote s) := by
  induction notes generalizing s with
  | nil => exact hs
  | cons n l ih => exact ih (hP.kept_takeNote n hs)

theorem kept_advance (expiry : Bool) (notes : List PlanNote) (hs : P s) : P (advance expiry notes s) := by
  unfold advance
  refine hP.kept_advanceSettle (hP.kept_settleRecord ?_)
  have h1 := hP.kept_notes notes hs
  split
  · split
    · exact hP.kept_gapExpired _ h1
    · exact h1
  · exact h1

/-! ### Steps 2 to 4 -/

theorem kept_followRoles (notes : List PlanNote) (hs : P s) : P (followRoles notes s) := hP.plan _ _ hs

theorem kept_judgeMakeHold (hs : P s) : P (judgeMakeHold s) := by
  unfold judgeMakeHold
  dsimp only
  split
  · exact hP.flags _ _ (hP.kept_onPlan _ hs)
  · exact hP.kept_onPlan _ hs

theorem kept_judgeSendShort (hs : P s) : P (judgeSendShort s) := by
  unfold judgeSendShort
  dsimp only
  split
  · split
    · exact hP.flags _ _ (hP.kept_change _ _ _ _ (hP.kept_onPlan _ hs))
    · exact hP.kept_change _ _ _ _ (hP.kept_onPlan _ hs)
  · exact hs

theorem kept_startChangeover (k : RoleKind) (old new : Option HolderId) (hs : P s) :
    P (startChangeover k old new s) := by
  unfold startChangeover
  dsimp only
  split
  · split
    · exact hP.kept_planOrder _ _ (hP.kept_onPlan _ hs)
    · exact hP.kept_planOrder _ _ (hP.kept_putRecord _ hs)
    · exact hs
  · exact hs

theorem kept_sendDecision (hs : P s) : P (sendDecision s) := by
  unfold sendDecision
  dsimp only
  split
  · exact hP.kept_startChangeover _ _ _ (hP.kept_onPlan _ hs)
  · exact hP.kept_onPlan _ hs

theorem kept_fillDecision (hs : P s) : P (fillDecision s) := by
  unfold fillDecision
  dsimp only
  split
  · exact hP.kept_startChangeover _ _ _ (hP.kept_onPlan _ hs)
  · exact hP.kept_onPlan _ hs

theorem kept_decideRoles (hs : P s) : P (decideRoles s) := by
  unfold decideRoles
  dsimp only
  split
  · split
    · exact hP.kept_fillDecision (hP.kept_sendDecision hs)
    · exact hP.kept_sendDecision hs
  · exact hs

/-! ### Plan events -/

theorem kept_planSteps (judge expiry : Bool) (hs : P s) : P (planSteps judge expiry s) :=
  hP.kept_deliverPlan _ (hP.kept_judgeSendShort (hP.kept_judgeMakeHold (hP.kept_followRoles _
    (hP.kept_advance _ _ (hP.kept_onPlan _ hs)))))

theorem kept_planRounds (judge : Bool) (n : Nat) (expiry : Bool) (hs : P s) : P (planRounds judge n expiry s) := by
  induction n generalizing s expiry with
  | zero => exact hP.kept_onPlan _ (hP.kept_planSteps _ _ hs)
  | succ n ih =>
    have h1 := hP.kept_deliverPlan judge (hP.kept_decideRoles (hP.kept_planSteps judge expiry hs))
    unfold planRounds
    dsimp only
    split
    · exact h1
    · exact ih false h1

theorem kept_planEventWith (judge expiry : Bool) (hs : P s) : P (planEventWith judge expiry s) := by
  unfold planEventWith
  split
  · exact hP.kept_planRounds _ _ _ hs
  · exact hP.kept_onPlan _ hs

theorem kept_planEvent (hs : P s) : P (planEvent s) := hP.kept_planEventWith _ _ hs

theorem kept_planNotes (hs : P s) : P (planNotes s) := by
  unfold planNotes
  split
  · exact hs
  · exact hP.kept_planEvent hs

theorem kept_deriveRoles (hs : P s) : P (deriveRoles s) := by
  unfold deriveRoles
  exact inOrder_kept _ (fun v _ _ h => hP.kept_planOrder _ _ h) (hP.kept_onPlan _ hs)

end PlanClosed

namespace YardClosed

variable {P : State → Prop} (hP : YardClosed P) {s : State}
include hP

/-! ### Deliveries of the Holder Unit -/

theorem kept_putHolder (h : HolderId) (r : HolderRec) (hs : P s) : P (putHolder h r s) := by
  unfold putHolder holderAlarms
  exact hP.kept_change _ _ _ _ (hP.kept_change _ _ _ _ (hP.kept_change _ _ _ _ (hP.kept_change _ _ _ _
    (hP.kept_change _ _ _ _ (hP.holders _ _ hs)))))

theorem kept_demand (h : HolderId) (a b : HolderRec) (hs : P s) : P (demand h a b s) :=
  hP.kept_protectHolder _ _ _ hs

theorem kept_putHolders (after : Vector HolderRec 4) (hs : P s) : P (putHolders after s) := by
  have h1 := inOrder_kept (f := fun h s => demand h s.holders[h] after[h] s) allHolders
    (fun h _ _ hs => hP.kept_demand _ _ _ hs)
    (inOrder_kept (f := fun h s => putHolder h after[h] s) allHolders (fun h _ _ hs => hP.kept_putHolder _ _ hs) hs)
  have h2 := inOrder_kept (f := fun h t => demand h s.holders[h] after[h] t) allHolders
    (fun h _ _ hs => hP.kept_demand _ _ _ hs)
    (inOrder_kept (f := fun h s => putHolder h after[h] s) allHolders (fun h _ _ hs => hP.kept_putHolder _ _ hs) hs)
  unfold putHolders
  dsimp only
  split
  · exact hP.kept_planEvent h2
  · exact h2

theorem kept_judgeHolders (f : HolderId → HolderRec → HolderRec) (hs : P s) : P (judgeHolders f s) :=
  hP.kept_putHolders _ hs

theorem kept_evaluateLimits (hs : P s) : P (evaluateLimits s) := by
  unfold evaluateLimits
  exact inOrder_kept _ (fun h _ _ hs => hP.kept_demand _ _ _ hs)
    (inOrder_kept _ (fun h _ _ hs => hP.kept_putHolder _ _ hs) hs)

theorem kept_commitHolders (was : Tables) (ds : List Delivery) (hs : P s) : P (commitHolders was ds s) := by
  unfold commitHolders
  refine inOrder_kept _ (fun h _ t ht => ?_) (inOrder_kept _ (fun h _ _ hs => hP.kept_putHolder _ _ hs) hs)
  split
  · exact hP.kept_demand _ _ _ ht
  · exact ht

/-! ### Contact events and the expiries -/

theorem kept_valveContacts (ds : List Delivery) (hs : P s) : P (valveContacts ds s) := by
  have h1 := hP.kept_takeValvePairs ds hs
  unfold valveContacts
  dsimp only
  split
  · exact hP.kept_planNotes (hP.kept_judgeValves ds h1)
  · exact h1

theorem kept_holderContacts (ds : List Delivery) (hs : P s) : P (holderContacts ds s) := by
  have h1 := hP.holders s (Vector.ofFn fun h =>
    if s.tables.holderOn h then takeHolderPairs ds h s.holders[h] else s.holders[h]) hs
  unfold holderContacts
  dsimp only
  split
  · exact hP.kept_judgeHolders _ h1
  · exact h1

theorem kept_boosterContacts (ds : List Delivery) (hs : P s) : P (boosterContacts ds s) := by
  unfold boosterContacts
  split
  · exact hP.kept_takeBoosterContact _ hs
  · exact hs

theorem kept_contactEvents (order : BlockOrder) (ds : List Delivery) (hs : P s) : P (contactEvents order ds s) := by
  cases order
  · exact hP.kept_boosterContacts _ (hP.kept_holderContacts _ (hP.kept_valveContacts _ hs))
  · exact hP.kept_holderContacts _ (hP.kept_boosterContacts _ (hP.kept_valveContacts _ hs))
  · exact hP.kept_boosterContacts _ (hP.kept_valveContacts _ (hP.kept_holderContacts _ hs))
  · exact hP.kept_valveContacts _ (hP.kept_boosterContacts _ (hP.kept_holderContacts _ hs))
  · exact hP.kept_holderContacts _ (hP.kept_valveContacts _ (hP.kept_boosterContacts _ hs))
  · exact hP.kept_valveContacts _ (hP.kept_holderContacts _ (hP.kept_boosterContacts _ hs))

theorem kept_dwellEvent (h : HolderId) (hs : P s) : P (dwellEvent h s) := hP.kept_judgeHolders _ hs

theorem kept_travelEvent (v : ValveId) (hs : P s) : P (travelEvent v s) :=
  hP.kept_planNotes (hP.kept_travelExpired v hs)

theorem kept_gapEvent (hs : P s) : P (gapEvent s) := by
  unfold gapEvent
  split
  · split
    · exact hP.kept_planEventWith _ _ hs
    · exact hs
  · exact hs

end YardClosed

end Sys2Proof.Machine
end

