-- ==== Sys2Proof/Laws/Frames.lean ====
section
/-! SUPPORT. Laws/Frames.lean: what the yard's events leave alone. -/

namespace Sys2Proof.Machine

namespace SameOutsideYard

theorem refl (s : State) : SameOutsideYard s s := by
  constructor <;> rfl

theorem trans {s t u : State} (h : SameOutsideYard s t) (k : SameOutsideYard t u) : SameOutsideYard s u where
  supply := k.supply.trans h.supply
  part := k.part.trans h.part
  retained := k.retained.trans h.retained
  staged := k.staged.trans h.staged
  startUp := k.startUp.trans h.startUp
  channels := k.channels.trans h.channels
  points := k.points.trans h.points
  returns := k.returns.trans h.returns
  meters := k.meters.trans h.meters
  check := k.check.trans h.check
  stations := k.stations.trans h.stations
  line := k.line.trans h.line
  link := k.link.trans h.link
  pending := k.pending.trans h.pending

/-- The two states have the same tables. -/
theorem tables {s t : State} (h : SameOutsideYard s t) : t.tables = s.tables := by
  simpa [State.tables, State.clock] using congrArg Retained.tables h.retained

/-- The two states have the same clock. -/
theorem clock {s t : State} (h : SameOutsideYard s t) : t.clock = s.clock := by
  simpa [State.tables, State.clock] using congrArg Retained.clock h.retained

end SameOutsideYard

/-- A flag set in the open periods is all that a delivery does to retained memory. -/
theorem markPeriods_frame (f : Flags) (s : State) : SameOutsideYard s (markPeriods f s) := by
  unfold markPeriods
  split
  · constructor <;> try rfl
    simp [Account.unflagged, State.account, Option.map_map, Function.comp_def]
  · exact .refl s

/-- The Valve Unit, the Pressure Unit and the plan change no holder's record. -/
theorem sameHolders_closed (x : Vector HolderRec 4) : PlanClosed (fun s => s.holders = x) where
  valve _ _ _ h _ := h
  control _ _ _ h _ _ := h
  plan _ _ h := h
  alarms _ _ h _ := h
  booster _ _ h _ := h
  press _ _ h := h
  districts _ _ h := h
  flags s f h := by
    unfold markPeriods
    split
    · exact h
    · exact h

/-- No order, travel or plan event moves a holder between AUTO and MANUAL (R61). -/
theorem sameControl_closed (c : HolderId → Control) : YardClosed (fun s => ∀ h : HolderId, s.controls[h].control = c h) where
  valve _ _ _ h _ := h
  control s g x h _ hx := by
    intro k
    simp only [State.setControl_controls, Fin.getElem_fin, bank_set_get]
    split
    · next e => exact e ▸ hx.trans (h g)
    · exact h k
  holders _ _ h := h
  plan _ _ h := h
  alarms _ _ h _ := h
  booster _ _ h _ := h
  press _ _ h := h
  districts _ _ h := h
  flags s f h := by
    unfold markPeriods
    split
    · exact h
    · exact h

/-- Every update the yard's blocks make of one another stays inside the yard. -/
theorem sameOutsideYard_closed (s : State) : YardClosed (SameOutsideYard s) where
  valve t v x h _ := h.trans (by constructor <;> rfl)
  control t c x h _ _ := h.trans (by constructor <;> rfl)
  holders t x h := h.trans (by constructor <;> rfl)
  plan t x h := h.trans (by constructor <;> rfl)
  alarms t x h _ := h.trans (by constructor <;> rfl)
  booster t x h _ := h.trans (by constructor <;> rfl)
  press t x h := h.trans (by constructor <;> rfl)
  districts t x h := h.trans (by constructor <;> rfl)
  flags t f h := h.trans (markPeriods_frame f t)

/-- A plan event stays inside the yard. -/
theorem planEventWith_frame (judge expiry : Bool) (s : State) : SameOutsideYard s (planEventWith judge expiry s) :=
  (sameOutsideYard_closed s).kept_planEventWith judge expiry (.refl s)

/-- An evaluation of the setpoints stays inside the yard. -/
theorem evaluate_frame (full : Bool) (s : State) : SameOutsideYard s (evaluate full s) :=
  (sameOutsideYard_closed s).kept_evaluate full (.refl s)

/-- The judgments of the holders stay inside the yard. -/
theorem judgeHolders_frame (f : HolderId → HolderRec → HolderRec) (s : State) :
    SameOutsideYard s (judgeHolders f s) :=
  (sameOutsideYard_closed s).kept_judgeHolders f (.refl s)

end Sys2Proof.Machine
end

