-- ==== Sys2Proof/Laws/Part.lean ====
section
/-! SUPPORT. Laws/Part.lean: every other operation of the part keeps whatever its updates keep, as Laws/Yard.lean has it
for the yard. -/

namespace Sys2Proof.Machine

/-- A property of states that every update of the part keeps, each record going only from a coherent one to a coherent
one. -/
structure PartClosed (P : State → Prop) : Prop extends YardClosed P where
  orders : ∀ s (h : HolderId) (x : HolderControl), P s → (s.controls[h].Coherent → x.Coherent) → P (s.setControl h x)
  retained : ∀ s r, P s → (s.clock.Legal → r.clock.Legal) → (s.account.Sound → r.account.Sound) → P (s.setRetained r)
  staged : ∀ s (x : Tables), P s → P { s with staged := x }
  startUp : ∀ s (x : StartUp), P s → (s.startUp.derived = true → x.derived = true) → P { s with startUp := x }
  part : ∀ s (x : PartState), P s → x ≠ .startUp → P { s with part := x }
  channels : ∀ s (x : Vector Channel 21), P s → P { s with channels := x }
  points : ∀ s (x : Vector Point 64), P s → P { s with points := x }
  returns : ∀ s (x : Vector ReturnLine 4), P s → P { s with returns := x }
  meters : ∀ s (x : Vector Meter 6), P s → (∀ p : PulseId, s.meters[p].Coherent → x[p].Coherent) →
    P { s with meters := x }
  check : ∀ s c, P s → (s.check.Coherent → c.Coherent) → P (s.setCheck c)
  station : ∀ s (n : StationId) (r : Station), P s → (s.stations[n].Coherent → r.Coherent) → P (s.setStation n r)
  line : ∀ s l, P s → (LineFits s → LineFits (s.setLine l)) → P (s.setLine l)
  link : ∀ s l, P s → (LinkSound s → LinkSound (s.setLink l)) → P (s.setLink l)

/-- A record joined to the queue: at the tail of what the queue keeps, with ACCOUNT-DROP where it gave way (R165). -/
theorem enqueue_spec (r : Record) (s : State) :
    ∃ q l, enqueue r s = (s.setAccount { s.account with queue := q ++ [r] }).setAlarms l ∧
      q.Sublist s.account.queue ∧
      (s.account.queue.length ≤ Config.accountCapacity → q.length < Config.accountCapacity) ∧
      (s.alarms.Sound → l.Sound) := by
  unfold enqueue
  split
  · next h => exact ⟨_, s.alarms, rfl, List.Sublist.refl _, fun _ => h, id⟩
  · obtain ⟨l, hl, hs⟩ := momentAlarm_spec .accountDrop 0
      (s.setAccount { s.account with queue := dropOne s.account.queue ++ [r] })
    refine ⟨_, l, hl, dropOne_sublist _, fun h => ?_, hs⟩
    rw [dropOne_length]
    have hc : 0 < Config.accountCapacity := by decide
    omega

namespace PartClosed

variable {P : State → Prop} (hP : PartClosed P) {s : State}
include hP

/-- The Account Unit changed so that it stays sound. -/
theorem kept_account {a : Account} (ha : s.account.Sound → a.Sound) (hs : P s) : P (s.setAccount a) :=
  hP.retained _ _ hs id ha

/-- The Account Unit changed away from its queue and chain. -/
theorem kept_accountSame {a : Account} (hq : a.queue = s.account.queue) (hn : a.nextSequence = s.account.nextSequence)
    (hl : a.lastSignature = s.account.lastSignature) (hs : P s) : P (s.setAccount a) :=
  hP.kept_account (fun h => h.of_same hq hn hl) hs

theorem kept_setTrim (d : DistrictId) (x : Int) (hs : P s) : P (s.setTrim d x) := hP.retained _ _ hs id id

theorem kept_setMeter (p : PulseId) {m : Meter} (hm : s.meters[p].Coherent → m.Coherent) (hs : P s) :
    P (s.setMeter p m) := by
  refine hP.meters _ _ hs fun q hq => ?_
  simp only [Fin.getElem_fin, bank_set_get]
  split
  · next h => subst h; exact hm hq
  · exact hq

/-! ### Channels and contacts -/

theorem kept_convertChannel (c : ChannelId) (raw : Nat) (hs : P s) : P (convertChannel c raw s) :=
  hP.kept_change _ _ _ _ (hP.channels _ _ hs)

theorem kept_commitChannels (old : Tables) (hs : P s) : P (commitChannels old s) :=
  inOrder_kept _ (fun _ _ _ h => hP.kept_change _ _ _ _ (hP.channels _ _ h)) hs

theorem kept_scanCycle (made : BitVec 64) (quiet : BitVec 4) (hs : P s) : P (scanCycle made quiet s).1 := by
  unfold scanCycle
  dsimp only
  refine hP.points _ _ (hP.points _ _ ?_)
  exact inOrder_kept _ (fun _ _ _ h => hP.kept_change _ _ _ _ (hP.returns _ _ h)) hs

theorem kept_commitContacts (old : Tables) (hs : P s) : P (commitContacts old s).1 :=
  hP.points _ _ (hP.points _ _ hs)

theorem kept_conversionEvent (c : ChannelId) (raw : Nat) (hs : P s) : P (conversionEvent c raw s) := by
  have h1 := hP.kept_convertChannel c raw hs
  unfold conversionEvent
  dsimp only
  split
  · exact hP.kept_judgeHolders _ h1
  · exact h1

theorem kept_scanEvent (made : BitVec 64) (quiet : BitVec 4) (order : BlockOrder) (hs : P s) :
    P (scanEvent made quiet order s) :=
  hP.kept_contactEvents order _ (hP.kept_scanCycle made quiet hs)

/-! ### Meters -/

theorem kept_addVolume (p : PulseId) (v : Int) (hs : P s) : P (addVolume p v s) := by
  unfold addVolume
  split
  · split
    · exact hP.kept_accountSame rfl rfl rfl hs
    · exact hs
  · exact hs

theorem kept_closeWindow (t : Tables) (minute : Bool) (p : PulseId) (hs : P s) : P (closeWindow t minute p s) := by
  have h1 := hP.kept_addVolume p (windowVolume t s p) (hP.kept_setMeter p
    (m := s.meters[p].closed minute (windowVolume t s p) (meterEstimated s p))
    (fun h => Meter.closed_coherent _ _ _ h) hs)
  unfold closeWindow
  dsimp only
  split
  · exact hP.flags _ _ h1
  · exact h1

theorem kept_closeWindows (t : Tables) (minute : Bool) (hs : P s) : P (closeWindows t minute s) := by
  refine inOrder_kept _ (fun p _ s h => ?_) hs
  split
  · exact hP.kept_closeWindow t minute p h
  · exact h

theorem kept_checkEnds {c : Check} (hc : s.check.Coherent → c.Coherent) (hs : P s) : P (checkEnds c s) :=
  hP.kept_moment _ _ (hP.check _ _ hs hc)

theorem kept_closeGate (target : Fin 5) {c : Check}
    (hco : s.check.Coherent → c.checkCount ≤ Config.intervalLimit) (hs : P s) : P (closeGate target c s) := by
  have key (r : Int) : s.check.Coherent → ({ c with
      state := .finished, timer := none, gateTimer := none, gateTime := c.gateTimer.map seconds,
      ratio := some r } : Check).Coherent := fun h => by simp [Check.Coherent, hco h]
  unfold closeGate
  dsimp only
  split
  · exact hP.kept_checkEnds (key _) hs
  · exact hP.kept_checkEnds (key _) (hP.kept_moment _ _ hs)

theorem kept_targetPulse (target : Fin 5) (hs : P s) : P (targetPulse target s) := by
  unfold targetPulse
  dsimp only
  split
  · next ha =>
    exact hP.check _ _ hs fun h => by
      have h3 := h.2.2.1 (.inl ha)
      simp [Check.Coherent, h3]
  · next hr =>
    split
    · exact hP.kept_closeGate target (fun h => h.2.2.2.2) hs
    · next hn =>
      exact hP.check _ _ hs fun h => by
        have h3 := h.2.2.1 (.inr hr)
        have h5 := h.2.2.2.2
        have h2 := h.2.1
        simp only [Check.Coherent, hr] at h2 ⊢
        exact ⟨by simp, h2, fun _ => h3, fun _ => by omega, h5⟩
  · exact hs

theorem kept_meterPulse (hs : P s) : P (meterPulse s) := by
  unfold meterPulse
  dsimp only
  split
  · next hr =>
    split
    · next hl =>
      exact hP.check _ _ hs fun h => ⟨h.1, h.2.1, h.2.2.1, h.2.2.2.1, by dsimp only; omega⟩
    · exact hP.kept_checkEnds (fun h => Check.cutShort_coherent h _ (.inr rfl) _) hs
  · exact hs

theorem kept_checkPulse (p : PulseId) (hs : P s) : P (checkPulse p s) := by
  unfold checkPulse
  split
  · split
    · exact hP.kept_targetPulse _ hs
    · split
      · exact hP.kept_meterPulse hs
      · exact hs
  · exact hs

theorem kept_saturation (p : PulseId) (b a : Bool) (hs : P s) : P (saturation p b a s) := by
  unfold saturation
  dsimp only
  split
  · split
    · exact hP.flags _ _ (hP.kept_moment _ _ hs)
    · exact hP.kept_moment _ _ hs
  · exact hs

theorem kept_takePulse (p : PulseId) (hs : P s) : P (takePulse p s) := by
  unfold takePulse
  split
  · exact hP.kept_checkPulse p (hP.kept_saturation p _ _ (hP.kept_setMeter p
      (fun h => Meter.timePulse_coherent (Meter.countPulse_coherent h)) hs))
  · exact hs

theorem kept_checkExpired (hs : P s) : P (checkExpired s) := by
  unfold checkExpired
  split
  · exact hP.kept_checkEnds (fun h => Check.cutShort_coherent h _ (.inl rfl) _) hs
  · exact hs

theorem kept_stopCheck (hs : P s) : P (stopCheck s) := by
  unfold stopCheck
  split
  · exact hP.kept_checkEnds (fun h => Check.cutShort_coherent h _ (.inr rfl) _) hs
  · exact hs

theorem kept_armCheck (target : Fin 5) {pulses : Nat} (hp : 0 < pulses) (tolerance : Nat) (hs : P s) :
    P (armCheck target pulses tolerance s) :=
  hP.check _ _ hs fun _ => by simp [Check.Coherent, hp]

theorem kept_commitMeters (was : Tables) (hs : P s) : P (commitMeters was s) :=
  hP.meters _ _ hs fun p h => by
    simpa using Meter.recommitted_coherent was.meter[p] s.tables.meter[p] h

/-! ### Accounts -/

theorem kept_takeStock (hs : P s) : P (takeStock s) := hP.kept_accountSame rfl rfl rfl hs

theorem kept_openHour (x : Int) (hs : P s) : P (openHour x s) :=
  hP.kept_accountSame rfl rfl rfl (hP.kept_takeStock hs)

theorem kept_openDay (x : Int) (hs : P s) : P (openDay x s) :=
  hP.kept_accountSame rfl rfl rfl (hP.kept_takeStock hs)

theorem kept_openPeriods (x : Int) (hs : P s) : P (openPeriods x s) := by
  unfold openPeriods
  dsimp only
  split
  · exact hP.kept_openHour x hs
  · exact hP.kept_openDay x (hP.kept_openHour x hs)

theorem kept_tellClass (c : UagClass) (hs : P s) : P (tellClass c s) := by
  unfold tellClass
  split
  · exact hP.kept_moment _ _ hs
  · exact hs

/-- A record that is numbered, chained and signed keeps the account sound as it is filed (R164, R165). -/
theorem kept_fileRecord (r : Record) (hs : P s) : P (fileRecord r s) := by
  have filed (q : List Record) (hq : q.Sublist s.account.queue) (hl : q.length < Config.accountCapacity)
      (h : s.account.Sound) := h.filed r hq hl
  unfold fileRecord
  dsimp only
  generalize r.chained s.account = x at filed ⊢
  have told := hP.kept_tellClass x.uagClass hs
  have same : (tellClass x.uagClass s).account = s.account := by unfold tellClass; split <;> rfl
  obtain ⟨q, l, he, hq, hlen, hl⟩ := enqueue_spec x ((tellClass x.uagClass s).setAccount { s.account with
    nextSequence := (s.account.nextSequence + 1) % 65536, lastSignature := x.signature })
  rw [he]
  exact hP.alarms _ l (hP.kept_account (s := tellClass x.uagClass s) (fun h => filed q hq (hlen (same ▸ h : s.account.Sound).1) (same ▸ h))
    told) hl

theorem kept_closeHour (e : AccountEntry) (cause : Flags) (hs : P s) : P (closeHour e cause s) := by
  unfold closeHour
  split
  · exact hs
  · next h _ =>
    have h1 := hP.kept_fileRecord (hourRecord e cause h s) (hP.kept_takeStock
      (hP.kept_accountSame (a := { s.account with accumulators := remainders s, hour := none }) rfl rfl rfl hs))
    dsimp only
    generalize fileRecord (hourRecord e cause h s)
      (takeStock (s.setAccount { s.account with accumulators := remainders s, hour := none })) = t at h1 ⊢
    exact hP.kept_accountSame rfl rfl rfl h1

theorem kept_closeDay (e : AccountEntry) (cause : Flags) (x : Int) (hs : P s) : P (closeDay e cause x s) := by
  unfold closeDay
  split
  · exact hs
  · exact hP.kept_fileRecord _ (hP.kept_accountSame rfl rfl rfl hs)

theorem kept_closeAndOpen (cause : Flags) (dayToo : Day → Bool) {retime : State → State}
    (hr : ∀ t, P t → P (retime t)) (hs : P s) : P (closeAndOpen cause dayToo retime s) := by
  have h1 := hP.kept_closeHour s.tables.account cause hs
  unfold closeAndOpen
  dsimp only
  refine hP.kept_openPeriods _ (hr _ ?_)
  split
  · exact hP.kept_closeDay _ _ _ h1
  · exact h1

theorem kept_accountSecond (hs : P s) : P (accountSecond s) := by
  have h1 : P (countSecond s) := hP.kept_accountSame rfl rfl rfl hs
  unfold accountSecond
  dsimp only
  split
  · split
    · exact hP.kept_closeAndOpen _ _ (fun _ h => h) h1
    · exact h1
  · exact hs

theorem kept_startAccount (hs : P s) : P (startAccount s) :=
  hP.kept_openPeriods _ (hP.kept_accountSame rfl rfl rfl hs)

theorem kept_writeClock {t : Time} (ht : t.Legal) (hs : P s) : P (writeClock t s) := by
  have h1 : P (s.setRetained { s.retained with clock := t, clockSet := true }) := hP.retained _ _ hs (fun _ => ht) id
  unfold writeClock
  dsimp only
  split
  · exact h1
  · exact hP.kept_end _ _ h1

theorem kept_setClock {t : Time} (ht : t.Legal) (hs : P s) : P (setClock t s) := by
  have h1 := hP.kept_closeWindows s.tables false hs
  unfold setClock
  dsimp only
  split
  · exact hP.kept_closeAndOpen _ _ (fun _ h => hP.kept_writeClock ht h) h1
  · split
    · exact hP.kept_startAccount (hP.kept_writeClock ht h1)
    · exact hP.kept_writeClock ht h1

theorem kept_powerGapClose (hs : P s) : P (powerGapClose s) := by
  unfold powerGapClose
  split
  · exact hP.kept_accountSame rfl rfl rfl (hP.kept_closeAndOpen _ _ (fun _ h => h) hs)
  · exact hs

theorem kept_commitClose (new : AccountEntry) (hs : P s) : P (commitClose new s) := by
  have h1 := hP.kept_closeHour new Flags.ofConfigChanged hs
  unfold commitClose
  dsimp only
  split
  · split
    · exact hP.kept_closeDay _ _ _ h1
    · exact h1
  · exact hs

theorem kept_commitOpen (hs : P s) : P (commitOpen s) := by
  unfold commitOpen
  split
  · exact hP.kept_openPeriods _ hs
  · split
    · exact hP.kept_startAccount hs
    · exact hs

theorem kept_accountAcceptance (d : DistrictId) (x : Int) (hs : P s) : P (accountAcceptance d x s) := by
  unfold accountAcceptance
  split
  · exact hP.kept_accountSame rfl rfl rfl hs
  · exact hs

theorem kept_freeRecords (q : Nat) (hs : P s) : P (freeRecords q s) := by
  have hsuf := freed_suffix s.account.queue q
  exact hP.kept_account (fun h => ⟨hsuf.length_le.trans h.1, h.2.1, fun r hr => h.2.2.1 r (hsuf.subset hr),
    fun r hr => h.2.2.2 r (getLast_of_suffix hsuf hr)⟩) hs

/-! ### Pressure -/

theorem kept_trimAcceptance (n : StationId) (x : Int) (hs : P s) : P (trimAcceptance n x s) := by
  unfold trimAcceptance
  split
  · exact hs
  · exact hP.kept_setTrim _ _ (hP.districts _ _ hs)

theorem kept_beginSetpoints (hs : P s) : P (beginSetpoints s) := by
  unfold beginSetpoints
  dsimp only
  exact inOrder_kept _ (fun _ _ _ h => hP.kept_setTrim _ _ h)
    (hP.kept_mapDistricts _ (hP.press _ _ (hP.press _ _ hs)))

theorem kept_commitDistrict (was : Tables) (d : DistrictId) (hs : P s) : P (commitDistrict was d s) := by
  unfold commitDistrict
  dsimp only
  split
  · exact hP.kept_change _ _ _ _ (hP.kept_setTrim _ _ (hP.districts _ _ hs))
  · exact hP.kept_setTrim _ _ (hP.districts _ _ hs)
  · split
    · exact hP.kept_setTrim _ _ (hP.districts _ _ hs)
    · exact hP.kept_setTrim _ _ (hP.districts _ _ hs)
  · exact hP.districts _ _ hs

theorem kept_commitBooster (pair : Option Pair) (hs : P s) : P (commitBooster pair s) := by
  unfold commitBooster
  split
  · split
    · exact hP.kept_putBooster (boosterContact_coherent _) hs
    · exact hs
  · exact hP.kept_putBooster (fun _ => by simpa [Booster.Coherent] using s.booster.stopped_coherent) hs

theorem kept_commitPressure (was : Tables) (pair : Option Pair) (hs : P s) : P (commitPressure was pair s) :=
  hP.kept_promptEvaluation (hP.kept_commitBooster _ (inOrder_kept _ (fun d _ _ h => hP.kept_commitDistrict was d h) hs))

end PartClosed

end Sys2Proof.Machine
end

