-- ==== Sys2Proof/Laws/Line.lean ====
section
/-! SUPPORT. Laws/Line.lean: the outstation line, the start-up sequence and the commit keep whatever the part's updates
keep (Laws/Part.lean). -/

namespace Sys2Proof.Machine

/-- The end of an ask leaves a coherent line with no ask in flight. -/
theorem Line.askEnded_coherent {l : Line} {a : Ask} (h : l.Coherent) (ha : l.ask = some a) (result : AskResult)
    (f : Option StationFrame) (g : Option Gating) : (l.askEnded a result f g).Coherent := by
  obtain ⟨h1, h2, _, h4, h5, h6, h7, h8, _⟩ := h
  have hm : l.state = .manualBusy ↔ a.manual = true := by rw [h5, ha]; simp
  have hc : l.state ≠ .calling := fun hc => by simp [h4 hc] at ha
  have hs : l.slot = none := by
    cases hs : l.slot
    · rfl
    · exact absurd (h8 (by simp [hs])) hc
  unfold Line.askEnded lineAfterAsk
  split
  · refine ⟨h1, h2, by simp, by simp, ?_, by simp, ?_, by simp [hs], ?_, ?_⟩ <;> dsimp only <;> (try split) <;> simp
  · next hn =>
    have hb : l.state ≠ .manualBusy := fun e => hn (hm.mp e)
    have hf : l.freePending = false := by
      cases hf : l.freePending
      · rfl
      · exact absurd (h6 hf) hb
    refine ⟨h1, h2, by simp, by simp, ?_, by simp [hf], ?_, by simp [hs], ?_, ?_⟩ <;> dsimp only <;> (try split) <;>
      simp_all

theorem Line.askEnded_ask (l : Line) (a : Ask) (result : AskResult) (f : Option StationFrame) (g : Option Gating) :
    (l.askEnded a result f g).ask = none := by
  unfold Line.askEnded lineAfterAsk
  split <;> rfl

theorem Station.afterAsk_coherent (e : StationEntry) (a : Ask) (result : AskResult) {f : Option StationFrame}
    (hf : ∀ x, f = some x → x.age < 256) (g : Option Gating) {r : Station} (h : r.Coherent) :
    (r.afterAsk e a result f g).Coherent := by
  have hb := Station.answered_coherent a.manual result (r := { r with lastResult := some result }) h
  unfold Station.afterAsk
  dsimp only
  split
  · exact Station.gated_coherent _ (hf _ rfl) _ hb
  · exact hb

/-- A poll put on the driver of a line that is POLLING. -/
theorem Line.Coherent.polled {l : Line} (h : l.Coherent) (hp : l.state = .polling) (n : StationId) (f : AskFunction)
    (arg : Byte) (rest : List StationId) :
    ({ l with roundList := rest, ask := some ⟨n, f, arg, false⟩, driver := .ask, window := none, bytes := [] } :
      Line).Coherent :=
  ⟨h.1, h.2.1, by simp, by simp [hp], by simp [hp], fun hf => h.2.2.2.2.2.1 hf, by simp, fun hs => h.2.2.2.2.2.2.2.1 hs,
    by simp, by simp⟩

theorem nextRound_range {r : Nat} (h : 1 ≤ r ∧ r ≤ 8) : 1 ≤ nextRound r ∧ nextRound r ≤ 8 := by
  unfold nextRound
  split <;> omega

/-- A station record put in place changes it and the alarms alone. -/
theorem putStation_spec (n : StationId) (r : Station) (s : State) :
    ∃ l, putStation n r s = (s.setStation n r).setAlarms l ∧ (s.alarms.Sound → l.Sound) := by
  obtain ⟨l, h, hl⟩ := alarmChange_spec .stationAbsent (number n) (s.stations[n].presence == .absent)
    (r.presence == .absent) (s.setStation n r)
  obtain ⟨m, k, hm⟩ := alarmChange_spec .stationStale (number n) (s.stations[n].freshness == .stale)
    (r.freshness == .stale) ((s.setStation n r).setAlarms l)
  refine ⟨m, ?_, fun hs => hm (hl hs)⟩
  unfold putStation
  dsimp only
  rw [h, k]
  rfl

theorem deliverGood_line (n : StationId) (f : Option StationFrame) (g : Option Gating) (s : State) :
    (deliverGood n f g s).line = s.line := by
  unfold deliverGood
  split
  · unfold deliverAcceptance accountAcceptance trimAcceptance
    split <;> split <;> rfl
  · rfl

/-- What the end of an ask leaves of the line. -/
theorem endAsk_line (a : Ask) (result : AskResult) (f : Option StationFrame) (s : State) :
    (endAsk a result f s).line = s.line.askEnded a result f (askGating s a f) := by
  unfold endAsk
  dsimp only
  split
  · obtain ⟨l, e, _⟩ := putStation_spec a.station
      (s.stations[a.station].afterAsk s.tables.station[a.station] a result f (askGating s a f))
      (onLine (Line.askEnded a result f (askGating s a f)) s)
    rw [deliverGood_line, e]
    rfl
  · rfl

/-- An aborted ask leaves no ask in flight, on a line that is not CALLING where it was not before. -/
theorem abortAsk_line (a : Ask) (s : State) (hc : s.line.state ≠ .calling) :
    (abortAsk a s).line.ask = none ∧ (abortAsk a s).line.state ≠ .calling := by
  have h1 : (endAsk a .aborted none s).line.ask = none := by rw [endAsk_line, Line.askEnded_ask]
  have h2 : (endAsk a .aborted none s).line.state ≠ .calling := by
    rw [endAsk_line]
    unfold Line.askEnded lineAfterAsk
    split
    · dsimp only
      split <;> simp
    · dsimp only
      split
      · simp
      · exact hc
  unfold abortAsk
  dsimp only
  split <;> exact ⟨h1, h2⟩

namespace PartClosed

variable {P : State → Prop} (hP : PartClosed P) {s : State}
include hP

/-! ### Stations -/

theorem kept_putStation (n : StationId) {r : Station} (hr : s.stations[n].Coherent → r.Coherent) (hs : P s) :
    P (putStation n r s) :=
  hP.kept_change _ _ _ _ (hP.kept_change _ _ _ _ (hP.station _ _ _ hs hr))

theorem kept_deliverAcceptance (n : StationId) (x : Int) (hs : P s) : P (deliverAcceptance n x s) :=
  hP.kept_accountAcceptance _ _ (hP.kept_trimAcceptance _ _ hs)

/-! ### The line -/

/-- The line changed where its state and what depends on it stay. -/
theorem kept_onLine (f : Line → Line) (hf : LineFits s → LineFits (onLine f s)) (hs : P s) : P (onLine f s) :=
  hP.line _ _ hs hf

theorem kept_commitStations (was : Tables) (hs : P s) : P (commitStations was s) :=
  inOrder_kept _ (fun _ _ _ h => hP.kept_putStation _ (fun hc => Station.recommitted_coherent _ _ hc) h)
    (hP.kept_onLine _ id hs)

theorem kept_readingSecond (hs : P s) : P (readingSecond s) := by
  refine inOrder_kept _ (fun n _ s h => ?_) (hP.kept_onLine _ id hs)
  split
  · exact hP.kept_putStation _ (fun hc => Station.second_coherent _ hc) h
  · exact h

/-- The first station of the round list asked by a line that is POLLING. -/
theorem kept_askFirst (hp : s.line.state = .polling) (hs : P s) : P (askFirst s) := by
  unfold askFirst
  split
  · exact hs
  · next n rest _ =>
    refine hP.line s _ hs fun h => ⟨h.1.polled hp n .readPoint 0 rest, fun ha => ?_⟩
    exact absurd ((h.2 ha).1.symm.trans hp) (by decide)

theorem kept_takeStation (hp : s.line.state = .polling) (hs : P s) : P (takeStation s) := by
  unfold takeStation
  have h1 : P (prepareRound s) := by
    unfold prepareRound
    dsimp only
    split
    · exact hP.kept_onLine _ (fun h => ⟨⟨nextRound_range h.1.1, h.1.2⟩, h.2⟩) hs
    · exact hP.kept_onLine _ id hs
  refine hP.kept_askFirst ?_ h1
  unfold prepareRound
  dsimp only
  split
  · exact hp
  · exact hp

theorem kept_pollExpired (hs : P s) : P (pollExpired s) := by
  have h1 : P (onLine (fun l => { l with pollTimer := some 0 }) s) := hP.kept_onLine _ id hs
  unfold pollExpired
  dsimp only
  split
  · split
    · next hp =>
      split
      · exact hP.kept_onLine _ id h1
      · exact hP.kept_takeStation hp h1
    · exact h1
  · exact hs

theorem kept_endAsk {a : Ask} (ha : s.line.ask = some a) (result : AskResult) {f : Option StationFrame}
    (hf : ∀ x, f = some x → x.age < 256) (hs : P s) : P (endAsk a result f s) := by
  have h1 : P (onLine (Line.askEnded a result f (askGating s a f)) s) :=
    hP.kept_onLine _ (fun h => ⟨Line.askEnded_coherent h.1 ha .., fun hw => absurd (h.1.2.2.2.1 (h.2 hw).1) (by simp [ha])⟩)
      hs
  have h2 := hP.kept_putStation (s := onLine (Line.askEnded a result f (askGating s a f)) s) a.station (fun hc => Station.afterAsk_coherent s.tables.station[a.station] a result hf
    (askGating s a f) (r := s.stations[a.station]) hc) h1
  unfold endAsk deliverGood
  dsimp only
  split
  · split
    · exact hP.kept_deliverAcceptance _ _ h2
    · exact h2
  · exact h1

theorem kept_lineByte (b : Byte) (between : Bool) (hs : P s) : P (lineByte b between s) := by
  unfold lineByte
  split
  · next ha _ =>
    unfold askByte
    dsimp only
    split
    · next f hf =>
      split
      · exact hP.kept_endAsk ha _ (fun x hx => by
          rw [← Option.some.inj hx]
          exact frameOf_age hf) hs
      · exact hP.kept_endAsk ha _ (by simp) hs
    · exact hP.kept_onLine _ id hs
  · split
    · exact hs
    · exact hP.kept_onLine _ id hs
  · exact hs

theorem kept_windowClosed (hs : P s) : P (windowClosed s) := by
  unfold windowClosed
  split
  · next ha _ => exact hP.kept_endAsk ha _ (by simp) hs
  · exact hs

theorem kept_askSent (hs : P s) : P (askSent s) := by
  unfold askSent
  split
  · next hd =>
    refine hP.kept_onLine _ (fun h => ⟨?_, fun hw => ⟨(h.2 hw).1, (h.2 hw).2.1, by simp [onLine], (h.2 hw).2.2.2⟩⟩) hs
    obtain ⟨h1, h2, _, h4, h5, h6, h7, h8, h9, _⟩ := h.1
    exact ⟨h1, h2, fun _ => h9 hd, h4, h5, h6, h7, h8, by simp [onLine], by simp [onLine]⟩
  · refine hP.kept_onLine _ (fun h => ⟨?_, fun hw => ⟨(h.2 hw).1, (h.2 hw).2.1, by simp [onLine], (h.2 hw).2.2.2⟩⟩) hs
    obtain ⟨h1, _, h3, h4, h5, h6, h7, h8, _⟩ := h.1
    exact ⟨h1, by simp [onLine], h3, h4, h5, h6, h7, h8, by simp [onLine], by simp [onLine]⟩
  · exact hs
  · exact hs

theorem kept_abortAsk {a : Ask} (ha : s.line.ask = some a) (hs : P s) : P (abortAsk a s) := by
  have h1 := hP.kept_endAsk ha .aborted (f := none) (by simp) hs
  unfold abortAsk
  dsimp only
  split
  · refine hP.kept_onLine _ (fun h => ⟨?_, h.2⟩) h1
    obtain ⟨h1, _, h3⟩ := h.1
    exact ⟨h1, by simp [onLine], h3⟩
  · refine hP.kept_onLine _ (fun h => ⟨?_, fun hw => ⟨(h.2 hw).1, (h.2 hw).2.1, by simp [onLine], (h.2 hw).2.2.2⟩⟩) h1
    obtain ⟨h1, _, h3, h4, h5, h6, h7, h8, _⟩ := h.1
    exact ⟨h1, by simp [onLine], h3, h4, h5, h6, h7, h8, by simp [onLine], by simp [onLine]⟩

/-- A CALL broadcast sent while no ask is in flight, once the derivation has been made. -/
theorem kept_sendCall (ha : s.line.ask = none) (hw : planAwake s = true) (hs : P s) : P (sendCall s) := by
  refine hP.kept_onLine _ (fun h => ⟨?_, fun hn => absurd (hn.symm.trans hw) (by decide)⟩) hs
  obtain ⟨h1, h2, h3, h4, h5, h6, h7, h8, h9, _⟩ := h.1
  have hf : s.line.freePending = false := by
    cases hf : s.line.freePending
    · rfl
    · obtain ⟨a, e, _⟩ := h5.mp (h6 hf)
      simp [ha] at e
  exact ⟨h1, h2, h3, fun _ => ha, by simp [onLine, ha], by simp [onLine, hf], by simp [onLine], by simp [onLine],
    by simp [onLine], by simp [onLine]⟩

theorem kept_callSent (hs : P s) : P (callSent s) := by
  unfold callSent
  split
  · next hd =>
    refine hP.kept_onLine _ (fun h => ⟨?_, fun hn => absurd hd (h.2 hn).2.2.1⟩) hs
    obtain ⟨h1, h2, h3, h4, h5, h6, h7, h8, h9, h10⟩ := h.1
    exact ⟨h1, h2, h3, h4, h5, h6, h7, fun _ => (h10 hd).1, by simp [onLine], by simp [onLine]⟩
  · exact hs

theorem kept_judgeSlot (n : StationId) (hs : P s) : P (judgeSlot n s) := by
  unfold judgeSlot
  dsimp only
  split
  · refine hP.kept_putStation _ (fun h => ?_) hs
    obtain ⟨h1, h2⟩ := slotPresence_spec n s.line.bytes
    exact ⟨h2, h1, h.2.2.1, h.2.2.2⟩
  · exact hs

/-- A roll call that ends leaves the line POLLING. -/
theorem kept_rollCallEnds {i : Fin 8} (hi : s.line.slot = some i) (hs : P s) : P (rollCallEnds s) := by
  refine hP.kept_askFirst rfl (hP.kept_onLine _ (fun h => ⟨?_, fun hn => ?_⟩) hs)
  · obtain ⟨h1, h2, h3, h4, h5, h6, h7, h8, h9, h10⟩ := h.1
    have hc := h8 (by simp [hi])
    have ha := h4 hc
    have hf : s.line.freePending = false := by
      cases hf : s.line.freePending
      · rfl
      · simp [hc] at h6
        simp [hf] at h6
    refine ⟨by simp [onLine], h2, h3, by simp [onLine], by simp [onLine, ha], by simp [onLine, hf], by simp [onLine],
      by simp [onLine], h9, fun hd => ?_⟩
    exact absurd ((h10 hd).2.symm.trans hi) (by simp)
  · have := (h.2 hn).2.1
    simp [hi] at this

theorem kept_slotClosed (hs : P s) : P (slotClosed s).1 := by
  unfold slotClosed
  split
  · exact hs
  · next i hi =>
    have h1 := hP.kept_judgeSlot i hs
    have hl : (judgeSlot i s).line = s.line := by
      unfold judgeSlot
      dsimp only
      split
      · obtain ⟨l, e, _⟩ := putStation_spec i { s.stations[i] with
          presence := (slotPresence i s.line.bytes).1, misses := (slotPresence i s.line.bytes).2 } s
        rw [e]
        rfl
      · rfl
    have hi' : (judgeSlot i s).line.slot = some i := hl ▸ hi
    generalize judgeSlot i s = t at h1 hi' ⊢
    dsimp only
    split
    · refine hP.line t _ h1 fun h => ⟨?_, fun hn => ?_⟩
      · obtain ⟨h1, h2, h3, h4, h5, h6, h7, h8, h9, h10⟩ := h.1
        exact ⟨h1, h2, h3, h4, h5, h6, h7, fun _ => h8 (by simp [hi']), h9,
          fun hd => absurd ((h10 hd).2.symm.trans hi') (by simp)⟩
      · exact absurd ((h.2 hn).2.1.symm.trans hi') (by simp)
    · exact hP.kept_rollCallEnds hi' h1

theorem kept_quietEnded (hs : P s) : P (quietEnded s) := by
  have h1 : P (onLine (fun l => { l with quiet := none, pollWaiting := false }) s) := by
    refine hP.kept_onLine _ (fun h => ⟨?_, h.2⟩) hs
    exact ⟨h.1.1, by simp [onLine], h.1.2.2⟩
  unfold quietEnded
  dsimp only
  split
  · split
    · next hc =>
      simp only [Bool.and_eq_true, beq_iff_eq] at hc
      refine hP.line s _ hs fun h => ?_
      obtain ⟨g1, g2, g3, g4, g5, g6, g7, g8, g9, g10⟩ := h.1
      have ha := g4 hc.2
      have hf : s.line.freePending = false := by
        cases hf : s.line.freePending
        · rfl
        · simp [hc.2, hf] at g6
      refine ⟨⟨g1, by simp [onLine], g3, fun _ => ha, by simp [onLine, ha], by simp [onLine, hf], by simp [onLine],
        by simp [onLine], by simp [onLine], by simp [onLine]⟩, fun hn => ?_⟩
      exact absurd hc.1 (by simp [(h.2 hn).2.2.2])
    · split
      · next hp =>
        simp only [Bool.and_eq_true, beq_iff_eq] at hp
        exact hP.kept_takeStation hp.2 h1
      · exact h1
  · exact hs

theorem kept_holdLine (hs : P s) : P (holdLine s) := by
  unfold holdLine
  split
  · next hp =>
    refine hP.kept_onLine _ (fun h => ⟨?_, fun hn => absurd ((h.2 hn).1.symm.trans hp) (by decide)⟩) hs
    obtain ⟨h1, h2, h3, h4, h5, h6, h7, h8, h9, h10⟩ := h.1
    have hb : ¬∃ a, s.line.ask = some a ∧ a.manual = true := by rw [← h5, hp]; decide
    have hf : s.line.freePending = false := by
      cases hf : s.line.freePending
      · rfl
      · simp [hp, hf] at h6
    have hl : s.line.slot = none := by
      cases hl : s.line.slot
      · rfl
      · simp [hp, hl] at h8
    have hd : s.line.driver ≠ .call := fun hd => by simp [hp] at h10; exact absurd hd h10
    cases ha : s.line.ask
    · exact ⟨h1, h2, by simpa [onLine, ha] using h3, by simp [onLine, ha], by simp [onLine, ha], by simp [onLine, hf],
        by simp [onLine, ha], by simp [onLine, hl], by simpa [onLine, ha] using h9, by simp [onLine, hd]⟩
    · exact ⟨h1, h2, by simp [onLine, ha], by simp [onLine, ha], by simpa [onLine, ha] using hb, by simp [onLine, hf],
        by simp [onLine, ha], by simp [onLine, hl], by simp [onLine, ha], by simp [onLine, hd]⟩
  · refine hP.kept_onLine _ (fun h => ⟨?_, h.2⟩) hs
    obtain ⟨h1, h2, h3, h4, h5, h6, h7⟩ := h.1
    exact ⟨h1, h2, h3, h4, h5, by simp [onLine], h7⟩
  · exact hs

theorem kept_freeLine (hs : P s) : P (freeLine s) := by
  have polling (hb : s.line.state = .held ∨ s.line.state = .holding) :
      P (onLine (fun l => { l with state := .polling }) s) := by
    refine hP.kept_onLine _ (fun h => ⟨?_, fun hn => ?_⟩) hs
    · obtain ⟨h1, h2, h3, h4, h5, h6, h7, h8, h9, h10⟩ := h.1
      have hm : ¬∃ a, s.line.ask = some a ∧ a.manual = true := by
        rw [← h5]; rcases hb with hb | hb <;> simp [hb]
      refine ⟨h1, h2, h3, by simp [onLine], by simpa [onLine] using hm, fun hf => ?_, by simp [onLine], fun hl => ?_, h9,
        fun hd => ?_⟩
      · rcases hb with hb | hb <;> simp [hb] at h6 <;> simp [onLine, h6] at hf
      · rcases hb with hb | hb <;> simp [hb] at h8 <;> simp [onLine, h8] at hl
      · rcases hb with hb | hb <;> simp [hb] at h10 <;> simp [onLine, h10] at hd
    · have := (h.2 hn).1
      rcases hb with hb | hb <;> simp [hb] at this
  unfold freeLine
  split
  · next hb => exact polling (.inl hb)
  · next hb => exact polling (.inr hb)
  · next hb =>
    refine hP.kept_onLine _ (fun h => ⟨?_, h.2⟩) hs
    obtain ⟨h1, h2, h3, h4, h5, h6, h7⟩ := h.1
    exact ⟨h1, h2, h3, h4, h5, fun _ => hb, h7⟩
  · exact hs

theorem kept_manualAsk (n : StationId) (f : AskFunction) (arg : Byte) (hl : s.line.state = .held) (hs : P s) :
    P (manualAsk n f arg s) := by
  refine hP.line s _ hs fun h => ⟨?_, fun hn => absurd ((h.2 hn).1.symm.trans hl) (by decide)⟩
  obtain ⟨h1, h2, h3, h4, h5, h6, h7, h8, h9, h10⟩ := h.1
  have hn : s.line.slot = none := by
    cases hn : s.line.slot
    · rfl
    · simp [hl, hn] at h8
  exact ⟨h1, h2, by simp [onLine], by simp [onLine], by simp [onLine], by simp [onLine], by simp [onLine],
    by simp [onLine, hn], by simp [onLine], by simp [onLine]⟩

theorem kept_killAsk (hs : P s) : P (killAsk s) := by
  unfold killAsk
  split
  · next ha =>
    split
    · exact hP.kept_abortAsk ha hs
    · exact hs
  · exact hs

/-- A roll call called for on a line that is not CALLING. -/
theorem kept_restartLine (hc : s.line.state ≠ .calling) (hs : P s) : P (restartLine s) := by
  have key (t : State) (ht : P t) (ha : t.line.ask = none) (hc : t.line.state ≠ .calling) :
      P (let t := onLine (fun l => { l with
          freePending := false, roundList := [], state := .calling, pollTimer := none, pollWaiting := false }) t
        if t.line.quiet.isSome then onLine (fun l => { l with callWaiting := true }) t else sendCall t) := by
    dsimp only
    split
    · refine hP.line t _ ht fun h => ⟨?_, fun hn => absurd (h.2 hn).1 hc⟩
      obtain ⟨h1, h2, h3, h4, h5, h6, h7, h8, h9, h10⟩ := h.1
      exact ⟨h1, h2, h3, fun _ => ha, by simp [onLine, ha], by simp [onLine], by simp [onLine], by simp [onLine], h9,
        fun hd => absurd (h10 hd).1 hc⟩
    · refine hP.line t _ ht fun h => ⟨?_, fun hn => absurd (h.2 hn).1 hc⟩
      obtain ⟨h1, h2, h3, h4, h5, h6, h7, h8, h9, h10⟩ := h.1
      exact ⟨h1, h2, h3, fun _ => ha, by simp [onLine, ha], by simp [onLine], by simp [onLine], by simp [onLine],
        by simp [onLine], by simp [onLine]⟩
  unfold restartLine
  split
  · next a ha =>
    exact key _ (hP.kept_abortAsk ha hs) (abortAsk_line a s hc).1 (abortAsk_line a s hc).2
  · next ha => exact key _ hs ha hc

end PartClosed

end Sys2Proof.Machine
end

