-- ==== Sys2Proof/Laws/Link.lean ====
section
/-! SUPPORT. Laws/Link.lean: the start-up sequence, the commit and the requests of the host link keep whatever the
part's updates keep (Laws/Part.lean). -/

namespace Sys2Proof.Machine

/-- A clock a second on is a legal time again (R182). -/
theorem Time.next_legal {t : Time} (h : t.Legal) : t.next.Legal := by
  obtain ⟨h1, h2⟩ := h
  unfold Time.next
  split
  · exact ⟨h1, by dsimp only; omega⟩
  · split
    · exact ⟨by dsimp only; omega, by simp⟩
    · exact ⟨by simp, by simp⟩

/-- A judgment on a named thing of a bank. -/
theorem naming_kept {P : State → Prop} {s : State} {n : Nat} (field : Nat) (i : Option (Fin n)) {f : Fin n → Judgment}
    (hf : ∀ i, P (f i s).1) (hs : P s) : P (naming field i f s).1 := by
  unfold naming
  split
  · exact hf _
  · exact hs

/-- A request judged by the tests common to all. -/
theorem judgeRequest_kept {P : State → Prop} {s : State} (code : Byte) (fits : Bool) {j : Judgment} (hj : P (j s).1) (hs : P s) :
    P (judgeRequest code fits j s).1 := by
  unfold judgeRequest
  split
  · exact hs
  · split
    · exact hs
    · split
      · exact hs
      · exact hj

namespace PartClosed

variable {P : State → Prop} (hP : PartClosed P) {s : State}
include hP

/-! ### Start-up -/

theorem kept_enterRun (hs : P s) : P (enterRun s) :=
  hP.part (s.setPress { s.press with tickTimer := some 0 }) .run (hP.press _ _ hs) (by decide)

theorem kept_finishStartUp (hs : P s) : P (finishStartUp s) := by
  have h1 := hP.kept_beginSetpoints (hP.kept_powerGapClose hs)
  unfold finishStartUp
  dsimp only
  split
  · exact hP.kept_planEvent (hP.kept_enterRun h1)
  · exact hP.part _ _ h1 (by decide)

theorem kept_closeSlot (hs : P s) : P (closeSlot s) := by
  have h1 := hP.kept_slotClosed hs
  unfold closeSlot
  split
  next t e he =>
    rw [he] at h1
    split
    · exact hP.kept_finishStartUp h1
    · exact h1

/-- The derivation, given that the broadcast may be sent on the line as it stands. -/
theorem kept_deriveYard (hcall : ∀ t, P t → t.line = s.line → planAwake t = true → P (sendCall t)) (hs : P s) :
    P (deriveYard s) := by
  have h1 := hP.kept_evaluateLimits (hP.kept_deriveValves hs)
  have f1 := (sameOutsideYard_closed s).kept_evaluateLimits ((sameOutsideYard_closed s).kept_deriveValves (.refl s))
  unfold deriveYard
  dsimp only
  generalize evaluateLimits (deriveValves s) = u at h1 f1 ⊢
  have h2 := hP.startUp u { u.startUp with derived := true } h1 (fun _ => rfl)
  have hl : ({ u with startUp := { u.startUp with derived := true } } : State).line = s.line := f1.line
  have ha : planAwake { u with startUp := { u.startUp with derived := true } } = true := by simp [planAwake]
  generalize ({ u with startUp := { u.startUp with derived := true } } : State) = v at h2 hl ha ⊢
  have f2 := (sameOutsideYard_closed v).kept_planEvent ((sameOutsideYard_closed v).kept_deriveRoles (.refl v))
  refine hcall _ (hP.kept_planEvent (hP.kept_deriveRoles h2)) (f2.line.trans hl) ?_
  simpa [planAwake, f2.part, f2.startUp] using ha

theorem kept_deriveIfReady
    (hcall : planAwake s = false → ∀ t, P t → t.line = s.line → planAwake t = true → P (sendCall t)) (hs : P s) :
    P (deriveIfReady s) := by
  unfold deriveIfReady
  split
  · next hd =>
    refine hP.kept_deriveYard (hcall ?_) hs
    simp only [deliveriesIn, Bool.and_eq_true, beq_iff_eq, Bool.not_eq_true'] at hd
    simp [planAwake, hd.1.1.1, hd.1.1.2]
  · exact hs

theorem kept_advanceClock (hs : P s) : P (advanceClock s) :=
  hP.retained _ _ hs (fun h => Time.next_legal h) id

theorem kept_clockSecond (hs : P s) : P (clockSecond s) := by
  have h1 := hP.kept_advanceClock hs
  unfold clockSecond
  dsimp only
  split
  · refine hP.kept_accountSecond ?_
    split
    · exact hP.kept_closeWindows _ _ h1
    · exact h1
  · exact h1

/-! ### Commit -/

theorem kept_activate (hs : P s) : P (activate s) := by
  have h1 := hP.retained s { s.retained with tables := s.staged, configured := true } hs id id
  unfold activate
  dsimp only
  split
  · exact hP.kept_enterRun h1
  · exact h1

theorem kept_commitPlan (hs : P s) : P (commitPlan s) := hP.kept_planEventWith _ _ (hP.kept_deriveRoles hs)

theorem kept_commitTables (hs : P s) : P (commitTables s) := by
  have h1 := hP.kept_activate (hP.kept_commitClose s.staged.account (hP.kept_closeWindows s.tables false hs))
  have h2 := hP.kept_commitContacts s.tables (hP.kept_commitChannels s.tables h1)
  unfold commitTables
  dsimp only
  exact hP.kept_commitOpen (hP.kept_commitPressure _ _ (hP.kept_commitPlan (hP.kept_commitStations _
    (hP.kept_commitMeters _ (hP.kept_commitValves
      (fun _ _ h => hP.orders _ _ _ h fun _ => HolderControl.startUp_coherent) _ _ (hP.kept_commitHolders _ _ h2))))))

/-! ### Requests -/

theorem kept_setOrders (fill send : List HolderId) (hs : P s) : P (setOrders fill send s) :=
  hP.kept_planEvent (hP.kept_onPlan _ (hP.retained _ _ hs id id))

theorem kept_respond (code tag : Byte) {j : Judgment} (hj : P (j s).1) : P (respond code tag j s) :=
  hP.link _ _ hj fun _ => by simp [LinkSound]

theorem kept_request (code tag : Byte) (fits : Bool) {j : Judgment} (hj : P (j s).1) (hs : P s) :
    P (request code tag fits j s) := by
  unfold request
  split
  · exact hP.kept_respond code tag (judgeRequest_kept code fits hj hs)
  · exact hs

end PartClosed

end Sys2Proof.Machine
end

