-- ==== Sys2Proof/Laws/PerInstr.lean ====
section
/-! SUPPORT. Laws/PerInstr.lean: a law of the commands as syntax. Every well-formed request's body fits a frame (R187,
R193): a frame's count of at most 246 bytes covers its code, its tag and at most 244 bytes of body. -/

namespace Sys2Proof.Laws.BodyFits

open Sys2Proof.Machine

/-- A well-formed command that is a request has a body of at most 244 bytes. -/
def Statement (i : Instr) : Prop :=
  i.wf = true → ∀ parts, requestParts i = some parts → parts.2.2.length ≤ 244

/-- Figures take four bytes each. -/
theorem length_signedBytes (l : List Int) : (l.flatMap (signedBytes 4)).length = 4 * l.length := by
  induction l with
  | nil => rfl
  | cons x l ih =>
    have h4 : (signedBytes 4 x).length = 4 := by
      unfold signedBytes
      split <;> simp [beBytes]
    simp only [List.flatMap_cons, List.length_append, List.length_cons, h4, ih]
    omega

/-- A command that is no request has no body. -/
theorem none_fits {i : Instr} (h : requestParts i = none) : Statement i := by
  intro _ parts hp
  rw [h] at hp
  cases hp

/-- A body of known length fits. -/
theorem some_fits {i : Instr} {c t : Byte} {b : List Byte} (h : requestParts i = some (c, t, b))
    (hb : b.length ≤ 244) : Statement i := by
  intro _ parts hp
  rw [h] at hp
  cases hp
  exact hb

theorem powerOn (cellKept : Bool) (strap : Bool) : Statement (.powerOn cellKept strap) := none_fits rfl
theorem supplyLoss : Statement .supplyLoss := none_fits rfl
theorem conversion (c : ChannelId) (raw : BitVec 16) : Statement (.conversion c raw) := none_fits rfl
theorem scanCycleEnd (made : BitVec 64) (quiet : BitVec 4) (order : BlockOrder) : Statement (.scanCycleEnd made quiet order) := none_fits rfl
theorem stageDwellExpiry (h : HolderId) : Statement (.stageDwellExpiry h) := none_fits rfl
theorem valveTravelTimeout (v : ValveId) : Statement (.valveTravelTimeout v) := none_fits rfl
theorem gapTimerExpiry : Statement .gapTimerExpiry := none_fits rfl
theorem pulse (p : PulseId) : Statement (.pulse p) := none_fits rfl
theorem intervalCounterStop (p : PulseId) : Statement (.intervalCounterStop p) := none_fits rfl
theorem checkTimeout : Statement .checkTimeout := none_fits rfl
theorem clockAdvance : Statement .clockAdvance := none_fits rfl
theorem tick : Statement .tick := none_fits rfl
theorem boosterStartTimeout : Statement .boosterStartTimeout := none_fits rfl
theorem runOnExpiry : Statement .runOnExpiry := none_fits rfl
theorem outstationAskSent : Statement .outstationAskSent := none_fits rfl
theorem outstationByteReceived (b : Byte) (between : Bool) : Statement (.outstationByteReceived b between) := none_fits rfl
theorem answerWindowClose : Statement .answerWindowClose := none_fits rfl
theorem readingAgeSecond : Statement .readingAgeSecond := none_fits rfl
theorem pollTimerExpiry : Statement .pollTimerExpiry := none_fits rfl
theorem quietWindowEnd : Statement .quietWindowEnd := none_fits rfl
theorem callBroadcastSent : Statement .callBroadcastSent := none_fits rfl
theorem rollCallSlotClose : Statement .rollCallSlotClose := none_fits rfl
theorem hostByteReceived (b : Byte) : Statement (.hostByteReceived b) := none_fits rfl
theorem frameGapTimeout : Statement .frameGapTimeout := none_fits rfl
theorem answerSent (strap : Bool) : Statement (.answerSent strap) := none_fits rfl
theorem yardStatus (tag : Byte) : Statement (.yardStatus tag) := some_fits rfl (by simp)
theorem holderRead (tag : Byte) (holder : Nat) : Statement (.holderRead tag holder) := some_fits rfl (by simp)
theorem channelRead (tag : Byte) (channel : Nat) : Statement (.channelRead tag channel) := some_fits rfl (by simp)
theorem contactRead (tag : Byte) : Statement (.contactRead tag) := some_fits rfl (by simp)
theorem meterRead (tag : Byte) (channel : Nat) : Statement (.meterRead tag channel) := some_fits rfl (by simp)
theorem districtRead (tag : Byte) (district : Nat) : Statement (.districtRead tag district) := some_fits rfl (by simp)
theorem stationRead (tag : Byte) (station : Nat) : Statement (.stationRead tag station) := some_fits rfl (by simp)
theorem lineResult (tag : Byte) : Statement (.lineResult tag) := some_fits rfl (by simp)
theorem alarmRead (tag : Byte) (position : Nat) : Statement (.alarmRead tag position) := some_fits rfl (by simp)
theorem accountRead (tag : Byte) (sequence : Option Nat) : Statement (.accountRead tag sequence) := by
  cases sequence with
  | none => exact some_fits rfl (by decide)
  | some q => exact some_fits rfl (by simp [beBytes])
theorem clockRead (tag : Byte) : Statement (.clockRead tag) := some_fits rfl (by simp)
theorem tableRead (tag : Byte) (copy : Nat) (table : Nat) (first : Nat) (count : Nat) : Statement (.tableRead tag copy table first count) := some_fits rfl (by simp)
theorem clockSet (tag : Byte) (day : Nat) (second : Nat) : Statement (.clockSet tag day second) := some_fits rfl (by simp [beBytes])
theorem tableWrite (tag : Byte) (table : Nat) (first : Nat) (entries : List (List Int)) : Statement (.tableWrite tag table first entries) := by
  intro hwf parts hp
  cases hp
  simp only [Instr.wf, fitsEntries, Bool.and_eq_true, decide_eq_true_eq] at hwf
  simp only [List.length_cons, length_signedBytes]
  omega
theorem tableCommit (tag : Byte) : Statement (.tableCommit tag) := some_fits rfl (by simp)
theorem tableDiscard (tag : Byte) : Statement (.tableDiscard tag) := some_fits rfl (by simp)
theorem planSet (tag : Byte) (fill : List Nat) (send : List Nat) : Statement (.planSet tag fill send) := by
  intro hwf parts hp
  cases hp
  simp only [Instr.wf, Bool.and_eq_true, decide_eq_true_eq] at hwf
  simp only [List.length_cons, List.length_append, List.length_map]
  omega
theorem holderHold (tag : Byte) (holder : Nat) : Statement (.holderHold tag holder) := some_fits rfl (by simp)
theorem holderFree (tag : Byte) (holder : Nat) : Statement (.holderFree tag holder) := some_fits rfl (by simp)
theorem holderOrder (tag : Byte) (holder : Nat) (order : Nat) : Statement (.holderOrder tag holder order) := some_fits rfl (by simp)
theorem valveConfirm (tag : Byte) (valve : Nat) : Statement (.valveConfirm tag valve) := some_fits rfl (by simp)
theorem checkStart (tag : Byte) (target : Nat) (pulses : Nat) (tolerance : Nat) : Statement (.checkStart tag target pulses tolerance) := some_fits rfl (by simp [beBytes])
theorem checkStop (tag : Byte) : Statement (.checkStop tag) := some_fits rfl (by simp)
theorem boosterReset (tag : Byte) : Statement (.boosterReset tag) := some_fits rfl (by simp)
theorem lineHold (tag : Byte) : Statement (.lineHold tag) := some_fits rfl (by simp)
theorem lineFree (tag : Byte) : Statement (.lineFree tag) := some_fits rfl (by simp)
theorem lineAsk (tag : Byte) (station : Nat) (function : Nat) (argument : Nat) : Statement (.lineAsk tag station function argument) := some_fits rfl (by simp)
theorem lineKill (tag : Byte) : Statement (.lineKill tag) := some_fits rfl (by simp)
theorem lineRestart (tag : Byte) : Statement (.lineRestart tag) := some_fits rfl (by simp)
theorem alarmAck (tag : Byte) (sourceType : Nat) (index : Nat) (kind : Nat) : Statement (.alarmAck tag sourceType index kind) := some_fits rfl (by simp)
theorem alarmAckAll (tag : Byte) : Statement (.alarmAckAll tag) := some_fits rfl (by simp)
theorem accountFree (tag : Byte) (sequence : Nat) : Statement (.accountFree tag sequence) := some_fits rfl (by simp [beBytes])
theorem restart (tag : Byte) : Statement (.restart tag) := some_fits rfl (by simp)

end Sys2Proof.Laws.BodyFits
end

