-- ==== Sys2Proof/Tests/Slice0.lean ====
section
/-! SUPPORT. Tests/Slice0.lean: small tests of single commands, their expected figures taken from the manual's worked
examples and tables where it has them and worked by hand from its rules elsewhere, the ill-formed commands the check
refuses, and a witness for every statement that has hypotheses. -/

namespace Sys2Proof.Tests

open Sys2Proof Sys2Proof.Machine

set_option Elab.async false

/-! ### A yard to test on -/

/-- Four holders of two lifts, H4 the relief holder; K(4v) and K(4v + 1) watch the stops of valve index v, K2 the
booster, K3 the top of H4, K6 the cup of H2's second lift. -/
def tables : Tables :=
  { Tables.default with
    holder := #v[⟨1, 0, 0, 30⟩, ⟨1, 0, 0, 30⟩, ⟨1, 0, 0, 30⟩, ⟨1, 1, 0, 30⟩]
    lift := Vector.ofFn fun i =>
      if i.val % 4 = 0 then ⟨1, 100000, 8000, 900⟩ else if i.val % 4 = 1 then ⟨1, 110000, 8000, 1450⟩
      else ⟨0, 1000, 500, 100⟩
    limit := Vector.replicate 4 ⟨100, 500, 2000, 15000, 15600, 150⟩
    channel := Vector.ofFn fun c => { defaultChannel c with enabled := 1 }
    contact := Vector.ofFn fun k =>
      if k.val < 32 ∧ k.val % 4 = 0 then ⟨1, (k.val / 4 + 1 : Nat), 0, 0⟩
      else if k.val < 32 ∧ k.val % 4 = 1 then ⟨2, (k.val / 4 + 1 : Nat), 0, 0⟩
      else if k = 2 then ⟨6, 0, 0, 0⟩ else if k = 3 then ⟨4, 4, 0, 0⟩ else if k = 6 then ⟨3, 2, 2, 0⟩
      else ⟨0, 0, 0, 0⟩
    valve := Vector.replicate 8 ⟨1, 180, 120⟩
    meter := #v[⟨1, 100000⟩, ⟨1, 100000⟩, ⟨1, 100000⟩, ⟨1, 100000⟩, ⟨1, 100000⟩, ⟨1, 10000⟩]
    station := #v[⟨1, 1, 1, 120⟩, ⟨1, 2, 1, 120⟩, ⟨1, 3, 0, 120⟩, ⟨1, 4, 1, 120⟩, ⟨0, 1, 0, 120⟩, ⟨1, 2, 0, 120⟩,
      ⟨0, 1, 0, 120⟩, ⟨0, 1, 0, 120⟩]
    district := #v[⟨1, 1, 700, 2000, 1000, 2250, 0, 625, 0, 10, 50, 300, 20⟩,
      ⟨1, 2, 700, 2000, 1000, 2250, 0, 625, 0, 10, 50, 300, 20⟩,
      ⟨1, 3, 800, 2000, 1200, 2250, 110, 625, 150, 10, 50, 300, 20⟩,
      ⟨1, 4, 700, 2000, 1000, 2250, 0, 625, 0, 10, 50, 300, 20⟩]
    profile := Vector.ofFn fun i => if i.val = 2 * 48 + 35 then 1250 else 1000
    yard := ⟨60, 10, 150, 600, 30, 24, 50⟩ }

/-- A VALID channel that shows a figure. -/
def shows (x : Int) : Channel :=
  { raw := 20000, lastGood := some 20000, value := x, smoothed := x, seed := false, status := .valid,
    fault := .noFault, age := 0 }

/-- A settled contact. -/
def settled (made : Bool) : Point :=
  { reading := if made then .made else .broken, candidate := none,
    debounced := some (if made then .made else .broken), valid := true, active := made, delivered := ⟨made, true⟩ }

/-- A valve CLOSED with both contacts as they should be. -/
def shut : Valve :=
  { Valve.startUp false with openContact := ⟨false, true⟩, shutContact := ⟨true, true⟩ }

/-- A valve OPEN. -/
def openValve : Valve := { shut with state := .opened, openContact := ⟨true, true⟩, shutContact := ⟨false, true⟩ }

/-- A holder at mid-travel on its second lift. -/
def half : HolderRec :=
  { HolderRec.startUp 16800000 with
    height := 11500, usable := true, heightStage := some 2, switchStage := some 2, pressureStage := some 2
    selected := 2, stageFrom := .height, pressure := 1462, volume := 11850000, stock := 12327504, estimated := false
    worked := true, cups := #v[⟨true, true⟩, ⟨false, false⟩, ⟨false, false⟩] }

/-- A district at rest. -/
def quiet : District :=
  { District.startUp 2250 2000 with
    profileTerm := 1000, wanted := 1000, target := 1000, setpoint := 1000, driven := true }

/-- A station that answers. -/
def present : Station :=
  { Station.startUp with presence := .present, reading := some 1300, age := 10, freshness := .fresh }

/-- The yard in RUN at 17:00 of day 18,402: every valve CLOSED, H1 the send holder by its open outlet V2, H2 the fill
holder by its open inlet V3, the booster at rest, the line POLLING. -/
def yard : State :=
  { State.reset with
    part := .run
    retained := Retained.written
      { Retained.coldStart with clock := ⟨18402, 61200⟩, clockSet := true, configured := true, tables := tables }
    staged := tables
    startUp := { StartUp.start with converted := Vector.replicate 21 true, scans := 2, derived := true }
    channels := #v[shows 11500, shows 11500, shows 11500, shows 11500, shows 1462, shows 1462, shows 1462, shows 1462,
      shows 640, shows 640, shows 640, shows 640, shows 100800, shows 1400, shows 800, shows 1400, shows 800,
      shows 1000, shows 1000, shows 1000, shows 1000]
    points := Vector.ofFn fun k =>
      settled (decide (k.val < 32 ∧ (k.val % 4 = 1 ∧ k.val ≠ 5 ∧ k.val ≠ 9 ∨ k.val = 4 ∨ k.val = 8) ∨ k = 6))
    holders := Vector.replicate 4 half
    valves := #v[shut, openValve, openValve, shut, shut, shut, shut, shut]
    plan := { Plan.startUp with fill := some 1, send := some 0, makeHold := false }
    districts := Vector.replicate 4 quiet
    press := { Pressure.startUp with send := some 0, feed := 1312, available := 1312, tickTimer := some 0, begun := true }
    stations := Vector.replicate 8 present
    line := { Line.startUp with state := .polling, pollTimer := some 0 }
    alarms := AlarmList.startUp }

/-- What a command leaves. -/
def after (c : Instr) (s : State) : State := match exec c s with | .next t => t | .fault f => nomatch f | .refused _ => s

/-- The reply on its way after a request. -/
def reply (c : Instr) (s : State) : Option Reply := (after c s).link.answer.map Answer.reply

/-- The body of a DONE reply. -/
def body (c : Instr) (s : State) : List Byte := match reply c s with | some (.accepted b) => b | _ => []

/-- The yard with one valve's record replaced. -/
def withValve (v : ValveId) (x : Valve) (s : State) : State := s.setValve v x

/-- A valve that travels. -/
def travelling (d : Direction) (o : Originator) (ticks : Nat) : Valve :=
  { (shut.driven d o) with timer := some ticks, openContact := ⟨false, true⟩, shutContact := ⟨false, true⟩ }

/-! ### Well-formedness refuses (R193) -/

theorem test_wf_refuses_a_number_above_a_byte :
    (Instr.holderRead 0 256).wf = false ∧ (Instr.channelRead 0 256).wf = false ∧ (Instr.meterRead 0 256).wf = false ∧
    (Instr.districtRead 0 256).wf = false ∧ (Instr.stationRead 0 256).wf = false ∧
    (Instr.alarmRead 0 256).wf = false ∧ (Instr.holderHold 0 256).wf = false ∧ (Instr.holderFree 0 256).wf = false ∧
    (Instr.valveConfirm 0 256).wf = false := by decide

theorem test_wf_refuses_any_of_several_fields :
    (Instr.tableRead 0 256 1 0 1).wf = false ∧ (Instr.tableRead 0 0 256 0 1).wf = false ∧
    (Instr.tableRead 0 0 1 256 1).wf = false ∧ (Instr.tableRead 0 0 1 0 256).wf = false ∧
    (Instr.holderOrder 0 256 0).wf = false ∧ (Instr.holderOrder 0 1 256).wf = false ∧
    (Instr.lineAsk 0 256 1 0).wf = false ∧ (Instr.lineAsk 0 1 256 0).wf = false ∧
    (Instr.lineAsk 0 1 1 256).wf = false ∧ (Instr.alarmAck 0 256 0 1).wf = false ∧
    (Instr.alarmAck 0 1 256 1).wf = false ∧ (Instr.alarmAck 0 1 0 256).wf = false := by decide

theorem test_wf_refuses_a_number_above_two_or_four_bytes :
    (Instr.accountRead 0 (some 65536)).wf = false ∧ (Instr.accountFree 0 65536).wf = false ∧
    (Instr.clockSet 0 65536 0).wf = false ∧ (Instr.clockSet 0 0 4294967296).wf = false ∧
    (Instr.checkStart 0 256 10 1).wf = false ∧ (Instr.checkStart 0 0 65536 1).wf = false ∧
    (Instr.checkStart 0 0 10 65536).wf = false := by decide

theorem test_wf_refuses_lists_that_fit_no_frame :
    (Instr.tableWrite 0 256 0 []).wf = false ∧ (Instr.tableWrite 0 1 256 []).wf = false ∧
    (Instr.tableWrite 0 10 0 [[2147483648]]).wf = false ∧
    (Instr.tableWrite 0 10 0 (List.replicate 61 [0])).wf = false ∧ (Instr.planSet 0 [256] [1]).wf = false ∧
    (Instr.planSet 0 [1] [256]).wf = false ∧
    (Instr.planSet 0 (List.replicate 122 1) (List.replicate 121 1)).wf = false := by decide +kernel

/-! ### The checks of the two lines -/

/-- The published check values of the two polynomials for the nine digits. -/
theorem test_check_words_of_the_nine_digits :
    crc16 [0x31, 0x32, 0x33, 0x34, 0x35, 0x36, 0x37, 0x38, 0x39] = 0x29B1 ∧
    crc8 [0x31, 0x32, 0x33, 0x34, 0x35, 0x36, 0x37, 0x38, 0x39] = 0xF4 := by decide +kernel

/-! ### Power and start-up -/

/-- The yard without its main supply. -/
def dark : State := after .supplyLoss yard

/-- A part right before the close of the last slot of its start-up's roll call. -/
def lastSlot : State :=
  { yard with
    part := .startUp, line := { Line.startUp with slot := some 7 }
    press := Pressure.startUp, districts := Vector.replicate 4 (District.startUp 2250 2000)
    retained := { yard.retained with trims := #v[0, 0, 40, 0] } }

theorem test_powerOn_with_a_failed_cell_is_cold :
    (after (.powerOn false true) dark).part = .startUp ∧ (after (.powerOn false true) dark).clock = ⟨0, 0⟩ ∧
    (after (.powerOn false true) dark).retained.configured = false ∧
    (after (.powerOn false true) dark).link.fast = true := by decide +kernel

/-- A start-up over retained memory whose check word is good keeps it (R181). -/
theorem startPart_of_checkGood {s : State} (strap : Bool) (h : s.retained.checkGood = true) :
    startPart true strap s = releaseDrives strap s.retained s.pending := by simp [startPart, h]

/-- The yard after its supply has come back. -/
def warm : State := releaseDrives false yard.retained []

theorem test_powerOn_warm_keeps_the_tables_and_the_clock :
    after (.powerOn true false) dark = warm ∧ warm.clock = ⟨18402, 61200⟩ ∧
    warm.valves[(3 : Fin 8)].cause = .unsettled ∧ warm.channels[(4 : Fin 21)].status = .stale :=
  ⟨startPart_of_checkGood false (Retained.written_checkGood _), by decide +kernel⟩

theorem test_supplyLoss_releases_the_drives :
    dark.supply = false ∧ dark.districts[(0 : Fin 4)].driven = false ∧ dark.retained = yard.retained :=
  ⟨rfl, by decide +kernel, rfl⟩

/-- "The retained trim becomes trim before start-up, and the trim is cleared to 0" (R138). -/
theorem test_rollCallSlotClose_ends_the_start_up :
    (after .rollCallSlotClose lastSlot).part = .run ∧
    (after .rollCallSlotClose lastSlot).retained.trims[(2 : Fin 4)] = 0 ∧
    (after .rollCallSlotClose lastSlot).districts[(2 : Fin 4)].trimBefore = some 40 ∧
    (after .rollCallSlotClose lastSlot).line.state = .polling := by decide +kernel

/-! ### Measurement, contacts, holders -/

/-- Conversions 7 and 9 of the open loop's waveform (01_measurement_channels.md): 23,891 gives 1,484 unsmoothed after a
fault, and 24,100 over 1,490 gives 1,495. -/
theorem test_conversion_scales_and_smooths :
    ((after (.conversion 4 23891) (yard.setChannel 4 { shows 1462 with seed := true })).channels[(4 : Fin 21)].smoothed
      = 1484) ∧
    ((after (.conversion 4 24100) (yard.setChannel 4 (shows 1490))).channels[(4 : Fin 21)].smoothed = 1495) := by
  decide +kernel

/-- Conversion 2 of the same waveform: a raw count of 1,204 is OPEN, HELD at 1,462. -/
theorem test_conversion_holds_an_open_loop :
    ((after (.conversion 4 1204) yard).channels[(4 : Fin 21)] =
      { shows 1462 with raw := 1204, seed := true, status := .held, fault := .openLoop, age := 1 }) ∧
    ((after (.conversion 4 1204) yard).alarms.lookup .channelFault 4).map AlarmEntry.state = some .raised := by
  decide +kernel

/-- V4 closes: cycle 4 of the worked sequence (02_contact_matrix.md), K12 read BROKEN a second time. -/
theorem test_scanCycleEnd_delivers_the_second_reading :
    (let s := { yard with points := yard.points.set 12 { settled true with candidate := some .broken }
                          valves := yard.valves.set 3 (travelling .toClose .plan 1000) }
     ((after (.scanCycleEnd 0 0 .valveHolderPressure) s).points[(12 : Fin 64)].debounced = some .broken ∧
      (after (.scanCycleEnd 0 0 .valveHolderPressure) s).valves[(3 : Fin 8)].openContact = ⟨false, true⟩)) := by
  decide +kernel

/-- Cycles 10 and 11 of the stuck return line's sequence: the second active quiet reading makes line B STUCK. -/
theorem test_scanCycleEnd_finds_a_stuck_return_line :
    (let s := { yard with returns := yard.returns.set 1 ⟨false, true⟩ }
     ((after (.scanCycleEnd 0 2 .valveHolderPressure) s).returns[(1 : Fin 4)] = ⟨true, false⟩ ∧
      (after (.scanCycleEnd 0 2 .valveHolderPressure) s).points[(13 : Fin 64)].valid = false ∧
      ((after (.scanCycleEnd 0 2 .valveHolderPressure) s).alarms.lookup .returnStuck 1).isSome)) := by
  decide +kernel

/-- The stock of H2 (03_holders_and_stock.md): 11,850,000 litres and 12,327,504 L(st). -/
theorem test_the_stock_of_H2 :
    volumeAt (tables.lifts 1) 11500 = 11850000 ∧ stdVolume 11850000 100800 1462 640 = 12327504 := by decide +kernel

theorem test_stageDwellExpiry_sets_the_mark :
    (after (.stageDwellExpiry 1) (yard.setHolder 1 { half with disagreeTimer := some 300000 })).holders[(1 : Fin 4)] =
      { half with disagree := true } := by decide +kernel

/-! ### Valves, orders, the plan -/

theorem test_valveTravelTimeout_faults :
    (let t := after (.valveTravelTimeout 3) (withValve 3 (travelling .toOpen .plan 1800000) yard)
     t.valves[(3 : Fin 8)].state = .fault ∧ t.valves[(3 : Fin 8)].cause = .timeout ∧
     t.valves[(3 : Fin 8)].drive = .undriven ∧ (t.alarms.lookup .valveFault 4).isSome) := by decide +kernel

/-- The worked sequence of a send changeover broken before it is made (05_the_yard_plan.md), H3 to H1: at the gap's
expiry V2 starts to open and the governors stay frozen. -/
def gapped : State :=
  { yard with
    valves := #v[shut, shut, openValve, shut, shut, shut, shut, shut]
    plan := { yard.plan with
      send := none, freeze := true
      record := some { kind := .send, old := some 2, new := some 0, method := .bbm, phase := .gap, awaited := []
                       gap := some 100000, taken := false } }
    press := { yard.press with send := none, freeze := true } }

theorem test_gapTimerExpiry_opens_the_new_valve :
    (after .gapTimerExpiry gapped).valves[(1 : Fin 8)].state = .opening ∧
    (after .gapTimerExpiry gapped).plan.record.map Changeover.phase = some .openNew ∧
    (after .gapTimerExpiry gapped).plan.freeze = true := by decide +kernel

/-- The same gap with V2 opened by hand: H1 takes the role and the governors are let go (R87, R88). -/
theorem test_a_new_valve_opened_by_hand_takes_the_role :
    (let t := advance false [.changed 1 .opened] (withValve 1 openValve gapped)
     t.plan.send = some 0 ∧ t.plan.freeze = false ∧ t.plan.record.map Changeover.phase = some .gap) := by decide +kernel

/-- A PLAN order that a PLAN order reverses ends REVERSED at the plan (R56, R60). -/
theorem test_a_reversed_plan_order_is_told :
    (carryOut 1 .toClose .plan
      (withValve 1 { travelling .toOpen .plan 5 with planAwaits := true } yard)).1.plan.inbox =
      [.ended 1 .reversed .closing] := by decide +kernel

/-- The valve confirmed stands CLOSED with originator MANUAL (R59). -/
theorem test_valveConfirm_closes_a_faulted_valve :
    (let s := withValve 5 { shut with state := .fault, cause := .drift } yard
     (after (.valveConfirm 1 6) s).valves[(5 : Fin 8)].state = .closed ∧
     (after (.valveConfirm 1 6) s).valves[(5 : Fin 8)].confirmed = true ∧
     reply (.valveConfirm 1 6) s = some (.accepted []) ∧
     reply (.valveConfirm 1 6) yard = some (.rejected .wrongState none)) := by decide +kernel

/-- H4 taken into hand (the worked sequence of 04_valves_and_holder_orders.md). -/
def byHand (q : List QueueEntry) : State := yard.setControl 3 ⟨.manual, q, 0, none⟩

theorem test_holderHold_takes_a_holder_into_hand :
    (after (.holderHold 1 4) yard).controls[(3 : Fin 4)].control = .manual ∧
    reply (.holderHold 1 5) yard = some (.rejected .badField (some ⟨0, 0, 1⟩)) := by decide +kernel

theorem test_holderFree_gives_it_back_with_an_empty_queue :
    (after (.holderFree 1 4) (byHand [])).controls[(3 : Fin 4)].control = .auto ∧
    reply (.holderFree 1 4) (byHand [⟨.openInlet, true⟩]) = some (.rejected .busy none) := by decide +kernel

/-- "HOLDER-ORDER(H4, OPEN-INLET): OPENING, MANUAL; running; DONE, position 1", and CLOSE-INLET behind it at 2. -/
theorem test_holderOrder_runs_and_queues :
    (after (.holderOrder 1 4 0) (byHand [])).valves[(6 : Fin 8)].state = .opening ∧
    (after (.holderOrder 1 4 0) (byHand [])).controls[(3 : Fin 4)].queue = [⟨.openInlet, true⟩] ∧
    reply (.holderOrder 1 4 0) (byHand []) = some (.accepted [0, 0, 0, 1]) ∧
    reply (.holderOrder 1 4 1) (byHand [⟨.openInlet, true⟩]) = some (.accepted [0, 0, 0, 2]) := by decide +kernel

/-- OPEN-OUTLET is refused by OUTLET-IN-USE, V2 being OPEN. -/
theorem test_holderOrder_is_refused_by_an_interlock :
    reply (.holderOrder 1 4 2) (byHand []) = some (.rejected .interlock none) ∧
    (after (.holderOrder 1 4 2) (byHand [])).controls[(3 : Fin 4)].lastInterlock = some (.openOutlet, .outletInUse) := by
  decide +kernel

theorem test_planSet_replaces_the_orders :
    (after (.planSet 1 [2, 3, 1] [1, 3, 2]) yard).retained.fillOrder = [1, 2, 0] ∧
    (after (.planSet 1 [2, 3, 1] [1, 3, 2]) yard).retained.sendOrder = [0, 2, 1] ∧
    reply (.planSet 1 [4] [1]) yard = some (.rejected .badField (some ⟨0, 0, 2⟩)) ∧
    reply (.planSet 1 [1] [2, 2]) yard = some (.rejected .badField (some ⟨0, 0, 5⟩)) := by decide +kernel

/-! ### Meters -/

/-- D3's meter at night (06_meter_counting.md): the pulse at a counter of 104,000 makes it the last interval. -/
theorem test_pulse_times_its_interval :
    (let t := after (.pulse 3) { yard with meters := yard.meters.set 3 { Meter.startUp with interval := some 104000 } }
     t.meters[(3 : Fin 6)].lastInterval = some 104000 ∧ t.meters[(3 : Fin 6)].interval = some 0 ∧
     t.meters[(3 : Fin 6)].counter = 1) := by decide +kernel

/-- The proving run of D1's meter: the 100th pulse over 1,004 P5 pulses gives 10,040. -/
theorem test_pulse_closes_the_gate :
    (let s := yard.setCheck { Check.startUp with state := .running, target := some 1, pulses := 100, tolerance := 5
                                                 targetCount := 99, checkCount := 1004, timer := some 0
                                                 gateTimer := some 146000 }
     (after (.pulse 1) s).check.ratio = some 10040 ∧ (after (.pulse 1) s).check.gateTime = some 15 ∧
     (after (.pulse 1) s).check.state = .finished ∧
     ((after (.pulse 1) s).alarms.lookup .checkOut 1).isNone) := by decide +kernel

theorem test_intervalCounterStop_leaves_no_interval :
    (let t := after (.intervalCounterStop 3)
        { yard with meters := yard.meters.set 3 { Meter.startUp with interval := some 16777215, lastInterval := some 5 } }
     t.meters[(3 : Fin 6)].interval = none ∧ t.meters[(3 : Fin 6)].lastInterval = none) := by decide +kernel

/-- A check that waits for its first pulse. -/
def armed : Check := { Check.startUp with state := .armed, target := some 0, pulses := 50, tolerance := 5, timer := some 0 }

theorem test_checkTimeout_ends_the_check :
    (after .checkTimeout (yard.setCheck armed)).check.state = .timedOut ∧
    ((after .checkTimeout (yard.setCheck armed)).alarms.lookup .checkDone 0).isSome := by decide +kernel

theorem test_checkStart_arms :
    (after (.checkStart 1 0 50 5) yard).check = armed ∧
    reply (.checkStart 1 0 9 5) yard = some (.rejected .badField (some ⟨0, 0, 2⟩)) ∧
    reply (.checkStart 1 0 50 5) (yard.setCheck armed) = some (.rejected .busy none) := by decide +kernel

theorem test_checkStop_aborts :
    (after (.checkStop 1) (yard.setCheck armed)).check.state = .aborted ∧
    (after (.checkStop 1) (yard.setCheck armed)).check.cause = some .requested := by decide +kernel

/-! ### The clock and the accounts -/

/-- One minute on D1's meter (06_meter_counting.md): 412 pulses give 42,590,431 mL(st) and leave 1,249,923,349 in the
accumulator. -/
theorem test_clockAdvance_closes_a_minute :
    (let s := { yard with
        meters := yard.meters.set 1 { Meter.startUp with counter := 412, full := true, lastFull := some 398 }
        retained := { yard.retained with
          clock := ⟨18402, 63719⟩
          account := { Account.coldStart with running := true, accumulators := #v[0, 1207332918, 0, 0, 0] } } }
     (after .clockAdvance s).meters[(1 : Fin 6)].lastVolume = some 42590431 ∧
     (after .clockAdvance s).meters[(1 : Fin 6)].lastFull = some 412 ∧
     (after .clockAdvance s).account.accumulators[(1 : Fin 5)] = 1249923349) := by decide +kernel

/-- The hour of the worked example of 09_send_out_accounts.md, one second before it closes. -/
def lastSecond : State :=
  { yard with
    holders := #v[{ half with stock := 8104220 }, half, { half with stock := 7990412 }, { half with stock := 1027380 }]
    retained := { yard.retained with
      clock := ⟨18402, 64799⟩
      account := { Account.coldStart with
        running := true, nextSequence := 4217
        accumulators := #v[4215380650, 2518406212, 1102774500, 1793205118, 612090871]
        hour := some ⟨⟨18402, 61200⟩, ⟨18402, 61200⟩, 3599, Flags.none, 31402118⟩
        day := some { nominal := ⟨18402, 21600⟩, start := ⟨18402, 21600⟩, elapsed := 43199, flags := Flags.none
                      stockStart := 30000000, make := 0, sendOut := Vector.replicate 4 0
                      listed := Vector.replicate 4 false, minPoint := Vector.replicate 4 none
                      maxPoint := Vector.replicate 4 none, hourFlags := Flags.none } } } }

/-- "The UAG of 141,506 ... the class is ADVISORY": make 4,215,381, D2 1,102,775, P2 leaving −500. -/
theorem test_clockAdvance_closes_an_hour :
    (let a := (after .clockAdvance lastSecond).account
     a.queue.map (fun r => (r.sequence, r.make, r.uag, r.uagClass)) = [(4217, 4215381, 141506, .advisory)] ∧
     (a.queue.map Record.districts).flatten.map DistrictLine.sendOut = [2518406, 1102775, 1793205, 612091] ∧
     a.accumulators = #v[-350, 212, -500, 118, -129] ∧ a.hour.map Hour.stockStart = some 29449516) := by
  decide +kernel

theorem test_clockSet_sets_the_mark_and_closes_early :
    (let s := { lastSecond with retained := { lastSecond.retained with clockSet := false } }
     (after (.clockSet 1 18500 100) s).clock = ⟨18500, 100⟩ ∧ (after (.clockSet 1 18500 100) s).retained.clockSet = true ∧
     (after (.clockSet 1 18500 100) s).account.queue.length = 2 ∧
     reply (.clockSet 1 18500 86400) s = some (.rejected .badField (some ⟨0, 0, 2⟩))) := by decide +kernel

/-- A record of a queue, with no figures. -/
def record (sequence : Nat) (dayRecord : Bool) : Record :=
  { sequence := sequence, dayRecord := dayRecord, start := ⟨0, 0⟩, duration := 3600, flags := Flags.none, make := 0
    districts := [⟨0, 0, none, none⟩], stockStart := 0, stockEnd := 0, uag := 0, uagClass := .normal
    prevSignature := 0, signature := 0 }

/-- The yard with a queue of account records. -/
def queued (q : List Record) : State := yard.setAccount { yard.account with running := true, queue := q }

theorem test_accountRead_finds_a_record :
    (body (.accountRead 1 (some 7)) (queued [record 6 true, record 7 false])).take 12 =
      [2, 0, 6, 0, 7, 0, 0, 1, 41, 0, 7, 0] ∧
    reply (.accountRead 1 (some 8)) (queued [record 7 false]) = some (.rejected .badField (some ⟨0, 0, 1⟩)) := by
  decide +kernel

/-- ACCOUNT-FREE takes every record up to the one it names (R166). -/
theorem test_accountFree_frees_up_to_a_record :
    (after (.accountFree 1 7) (queued [record 6 true, record 7 false, record 8 false])).account.queue =
      [record 8 false] ∧
    reply (.accountFree 1 7) (queued [record 6 true, record 7 false, record 8 false]) = some (.accepted [0, 0, 0, 1]) := by
  decide +kernel

/-! ### Street pressure -/

/-- Upper Town at 17:30 (07_street_pressure.md): a trim of 40, 300 pulses in the last minute, the setpoint at 1,310. -/
def peak : State :=
  { yard with
    retained := { yard.retained with clock := ⟨18402, 63000⟩, trims := #v[0, 0, 40, 0] }
    meters := yard.meters.set 3 { Meter.startUp with lastFull := some 300 }
    districts := yard.districts.set 2 { quiet with setpoint := 1310 } }

theorem test_tick_starts_the_booster_and_slews :
    (after .tick peak).districts[(2 : Fin 4)].wanted = 1560 ∧ (after .tick peak).districts[(2 : Fin 4)].staticCap = 1562 ∧
    (after .tick peak).booster.state = .starting ∧ (after .tick peak).press.available = 1312 ∧
    (after .tick peak).districts[(2 : Fin 4)].setpoint = 1312 := by decide +kernel

/-- Time 9 of the same table: with the booster RUNNING the setpoint climbs 20 Pa. -/
theorem test_tick_climbs_with_the_booster :
    (let s := { peak with
        booster := { Booster.startUp with state := .running, demand := true, runLine := true, contact := ⟨true, true⟩ }
        districts := yard.districts.set 2 { quiet with setpoint := 1312 } }
     (after .tick s).press.available = 1912 ∧ (after .tick s).districts[(2 : Fin 4)].target = 1560 ∧
     (after .tick s).districts[(2 : Fin 4)].setpoint = 1332) := by decide +kernel

theorem test_boosterStartTimeout_fails_the_start :
    (let s := peak.setBooster { Booster.startUp with state := .starting, runLine := true, startTimer := some 300000 }
     (after .boosterStartTimeout s).booster.state = .failed ∧
     (after .boosterStartTimeout s).booster.cause = some .noStart ∧
     ((after .boosterStartTimeout s).alarms.lookup .boosterFailed 0).isSome) := by decide +kernel

theorem test_runOnExpiry_stops_the_booster :
    (let s := yard.setBooster { Booster.startUp with state := .runOn, runLine := true, runOnTimer := some 1200000 }
     (after .runOnExpiry s).booster.state = .idle ∧ (after .runOnExpiry s).booster.runLine = false) := by decide +kernel

theorem test_boosterReset_leaves_it_stopped :
    (let s := yard.setBooster { Booster.startUp with state := .failed, cause := some .noStart }
     (after (.boosterReset 1) s).booster.state = .idle ∧ reply (.boosterReset 1) yard = some (.accepted [])) := by
  decide +kernel

/-! ### The outstation line -/

/-- S1 to S4 in POLLING, the ask of a station on its way (the worked sequence of 08_outstation_line.md). -/
def asking (n : StationId) (manual : Bool) (bytes : List Byte) : State :=
  { yard with
    stations := yard.stations.set 1 { present with misses := 2 }
    line := { yard.line with
      state := if manual then .manualBusy else .polling, ask := some ⟨n, .readPoint, 0, manual⟩, window := some 450
      bytes := bytes, round := 3, roundList := [2, 3]
      manualResult := if manual then some ⟨n, .readPoint, 0, none, none, none, none⟩ else none } }

/-- The yard with its line changed. -/
def lined (f : Line → Line) : State := { yard with line := f yard.line }

/-- The ask of S3 and the broadcast, with their checks worked by hand (R194). -/
theorem test_ask_frames :
    (⟨2, .readPoint, 0, false⟩ : Ask).bytes = [3, 1, 0, 0xA8] ∧ callFrame = [0, 4, 0, 0x54] := by decide +kernel

theorem test_outstationAskSent_opens_the_window :
    (after .outstationAskSent (lined fun l => { l with ask := some ⟨0, .readPoint, 0, false⟩, driver := .ask })).line.window
      = some 0 := by decide +kernel

/-- "S1 answers READY, 1,318 Pa, age 3: GOOD, ACCEPTED" (08_outstation_line.md), its frame's check worked by hand. -/
theorem test_outstationByteReceived_completes_an_answer :
    (let t := after (.outstationByteReceived 0x6D false) (asking 0 false [1, 1, 0x05, 0x26, 3])
     t.stations[(0 : Fin 8)].reading = some 1318 ∧ t.stations[(0 : Fin 8)].age = 3 ∧
     t.stations[(0 : Fin 8)].lastResult = some (.good 1) ∧ t.stations[(0 : Fin 8)].lastGating = some .accepted ∧
     t.line.ask = none) := by decide +kernel

/-- D3's trim through the evening (07_street_pressure.md): 1,185 raises 20 to 30, 1,262 lowers 40 to 30. -/
theorem test_an_acceptance_moves_the_trim :
    (trimAcceptance 2 1185 (yard.setTrim 2 20)).retained.trims[(2 : Fin 4)] = 30 ∧
    (trimAcceptance 2 1247 (yard.setTrim 2 40)).retained.trims[(2 : Fin 4)] = 40 ∧
    (trimAcceptance 2 1262 (yard.setTrim 2 40)).retained.trims[(2 : Fin 4)] = 30 := by decide +kernel

/-- "S2's window closes, no byte: NO-ANSWER, ABSENT, 3; STATION-ABSENT(S2) rises". -/
theorem test_answerWindowClose_counts_the_third_miss :
    (let t := after .answerWindowClose (asking 1 false [])
     t.stations[(1 : Fin 8)].presence = .absent ∧ t.stations[(1 : Fin 8)].misses = 3 ∧
     t.stations[(1 : Fin 8)].lastResult = some .noAnswer ∧ (t.alarms.lookup .stationAbsent 2).isSome) := by
  decide +kernel

theorem test_readingAgeSecond_makes_a_reading_stale :
    (let t := after .readingAgeSecond { yard with stations := yard.stations.set 0 { present with age := 120 } }
     t.stations[(0 : Fin 8)].age = 121 ∧ t.stations[(0 : Fin 8)].freshness = .stale ∧
     t.stations[(4 : Fin 8)] = present) := by decide +kernel

/-- Round 4 begins with S1, S3, S4, the ABSENT S2 and S6 being passed over. -/
theorem test_pollTimerExpiry_begins_a_round :
    (let absent : Station := { present with presence := .absent, misses := 3 }
     let s := { yard with stations := (yard.stations.set 1 absent).set 5 absent
                          line := { yard.line with round := 3, roundList := [] } }
     (after .pollTimerExpiry s).line.round = 4 ∧ (after .pollTimerExpiry s).line.roundList = [2, 3] ∧
     (after .pollTimerExpiry s).line.ask = some ⟨0, .readPoint, 0, false⟩) := by decide +kernel

/-- An expiry during a manual ask starts the timer again (R145), and a hold calls the waiting poll off (R150). -/
theorem test_polls_held_back :
    (let s := asking 1 true []
     (after .pollTimerExpiry { s with line := { s.line with pollTimer := some 25000 } }).line =
       { s.line with pollTimer := some 0 }) ∧
    (after (.lineHold 1) (lined fun l => { l with quiet := some 9, pollWaiting := true })).line.pollWaiting = false := by
  decide +kernel

theorem test_quietWindowEnd_sends_the_waiting_poll :
    (let t := after .quietWindowEnd (lined fun l => { l with quiet := some 0, pollWaiting := true, roundList := [2, 3] })
     t.line.quiet = none ∧ t.line.ask = some ⟨2, .readPoint, 0, false⟩) := by decide +kernel

theorem test_callBroadcastSent_opens_the_first_slot :
    (after .callBroadcastSent (lined fun l => { l with state := .calling, driver := .call })).line.slot = some 0 := by
  decide +kernel

theorem test_rollCallSlotClose_finds_a_silent_station :
    (let t := after .rollCallSlotClose (lined fun l => { l with state := .calling, slot := some 1 })
     t.stations[(1 : Fin 8)].presence = .absent ∧ t.line.slot = some 2) := by decide +kernel

theorem test_lineHold_by_line_state :
    (after (.lineHold 1) (asking 0 false [])).line.state = .holding ∧ (after (.lineHold 1) yard).line.state = .held ∧
    reply (.lineHold 1) (lined fun l => { l with state := .calling }) = some (.rejected .busy none) := by
  decide +kernel

theorem test_lineFree_by_line_state :
    (after (.lineFree 1) (lined fun l => { l with state := .held })).line.state = .polling ∧
    (after (.lineFree 1) (asking 1 true [])).line.freePending = true := by decide +kernel

theorem test_lineAsk_needs_a_held_line :
    (after (.lineAsk 1 2 3 85) (lined fun l => { l with state := .held })).line.ask = some ⟨1, .echo, 85, true⟩ ∧
    reply (.lineAsk 1 2 3 85) yard = some (.rejected .notHeld none) ∧
    reply (.lineAsk 1 2 3 85) (lined fun l => { l with state := .held, quiet := some 5 }) =
      some (.rejected .busy none) := by decide +kernel

/-- The kill at 8.350 s of an ask that left at 8.305 s leaves 155 ms of quiet window. -/
theorem test_lineKill_leaves_a_quiet_window :
    (let t := after (.lineKill 1) (asking 1 true [])
     t.line.state = .held ∧ t.line.quiet = some 1550 ∧ t.line.manualResult.bind ManualResult.result = some .aborted) := by
  decide +kernel

theorem test_lineRestart_calls_the_roll :
    (after (.lineRestart 1) yard).line.state = .calling ∧ (after (.lineRestart 1) yard).line.driver = .call ∧
    reply (.lineRestart 1) (lined fun l => { l with state := .calling }) = some (.rejected .busy none) := by
  decide +kernel

/-! ### The alarm list -/

/-- An ENDED entry. -/
def slow : AlarmEntry := ⟨.valveSlow, 3, .ended, ⟨0, 0⟩, false, 2⟩

/-- 31 entries, none of them ENDED. -/
def standing : List AlarmEntry := (List.range 31).map fun i => ⟨.channelFault, i, .standing, ⟨0, 0⟩, false, 0⟩

/-- The full list of 10_alarm_list.md: VALVE-SLOW(V3) ENDED at its head, 31 others STANDING. -/
def fullList : AlarmList := ⟨slow :: standing, false, true⟩

theorem test_a_rise_evicts_the_oldest_ended_entry :
    (let l := (raiseAlarm .stationAbsent 5 (yard.setAlarms fullList)).alarms
     l.entries.length = 32 ∧ (l.lookup .valveSlow 3).isNone ∧ (l.lookup .stationAbsent 5).isSome ∧ l.listFull = false ∧
     (raiseAlarm .stationAbsent 7 (yard.setAlarms l)).alarms.listFull = true) := by decide +kernel

theorem test_alarmAck_removes_an_ended_entry :
    ((after (.alarmAck 1 4 3 11) (yard.setAlarms fullList)).alarms.lookup .valveSlow 3).isNone ∧
    reply (.alarmAck 1 4 3 11) yard = some (.rejected .wrongState none) ∧
    reply (.alarmAck 1 4 9 11) yard = some (.rejected .badField (some ⟨0, 0, 2⟩)) := by decide +kernel

theorem test_alarmAckAll_counts_both_sorts :
    (let l : AlarmList := ⟨[⟨.clockUnset, 0, .raised, ⟨0, 0⟩, true, 0⟩, ⟨.checkDone, 0, .ended, ⟨0, 0⟩, true, 0⟩], false, true⟩
     (after (.alarmAckAll 1) (yard.setAlarms l)).alarms =
       ⟨[⟨.clockUnset, 0, .standing, ⟨0, 0⟩, true, 0⟩], false, false⟩ ∧
     reply (.alarmAckAll 1) (yard.setAlarms l) = some (.accepted [0, 0, 0, 1, 0, 0, 0, 1])) := by decide +kernel

theorem test_alarmRead_lays_out_an_entry :
    body (.alarmRead 1 1) (yard.setAlarms ⟨[⟨.valveSlow, 3, .ended, ⟨18402, 61200⟩, true, 2⟩], false, true⟩) =
      [1, 0, 1, 1, 4, 3, 11, 2, 0x47, 0xE2, 0x80, 0, 0xEF, 0x10, 0, 2] ∧
    reply (.alarmRead 1 33) yard = some (.rejected .badField (some ⟨0, 0, 1⟩)) := by decide +kernel

/-! ### The host link -/

/-- The frame of CLOCK-READ with tag 7, all but its last byte, its check worked by hand. -/
def nearlyFramed : State :=
  yard.setLink { yard.link with receiver := .receiving, buffer := [0xC3, 2, 0x0B, 7, 0x6E], gap := some 0 }

/-- A part whose answer to a RESTART is on its way. -/
def restarting : State := after (.restart 9) yard

theorem test_hostByteReceived_completes_a_frame :
    (after (.hostByteReceived 0xC5) nearlyFramed).link.answer =
      some ⟨0x0B, 7, .accepted [0, 0, 0x47, 0xE2, 0, 0, 0xEF, 0x10, 1, 2]⟩ ∧
    (after (.hostByteReceived 0xC4) nearlyFramed).link.answer = none := by decide +kernel

theorem test_frameGapTimeout_abandons_the_frame :
    (after .frameGapTimeout nearlyFramed).link.receiver = .hunting ∧
    (after .frameGapTimeout nearlyFramed).link.buffer = [] := by decide +kernel

theorem test_answerSent_opens_the_receiver :
    (after (.answerSent true) (after (.clockRead 7) yard)).link.receiver = .hunting ∧
    (after (.answerSent true) (after (.clockRead 7) yard)).part = .run := by decide +kernel

theorem test_restart_begins_at_its_answers_end :
    restarting.part = .run ∧ after (.answerSent true) restarting = releaseDrives true yard.retained [] ∧
    reply (.restart 9) (withValve 3 (travelling .toOpen .plan 5) yard) = some (.rejected .busy none) :=
  ⟨rfl, startPart_of_checkGood true (Retained.written_checkGood _), by decide +kernel⟩

theorem test_clockRead_answers_the_clock :
    body (.clockRead 7) yard = [0, 0, 0x47, 0xE2, 0, 0, 0xEF, 0x10, 1, 2] := by decide +kernel

/-- The bodies that R197 lays out have their lengths, and a closed receiver takes no request. -/
theorem test_reads_of_the_whole_part :
    (body (.yardStatus 1) yard).length = 73 ∧ (body (.contactRead 1) yard).length = 72 ∧
    (body (.lineResult 1) yard).length = 22 ∧
    after (.yardStatus 2) (after (.clockRead 7) yard) = after (.clockRead 7) yard :=
  ⟨by decide +kernel, by decide +kernel, by decide +kernel, rfl⟩

/-- H2's stage, height and stock where R196 puts them. -/
theorem test_holderRead_lays_out_a_holder :
    (body (.holderRead 1 2) yard).take 11 = [2, 1, 0, 0x2C, 0xEC, 1, 2, 2, 2, 2, 0] ∧
    (body (.holderRead 1 2) yard).length = 73 ∧
    reply (.holderRead 1 0) yard = some (.rejected .badField (some ⟨0, 0, 1⟩)) := by decide +kernel

theorem test_channelRead_lays_out_a_channel :
    (body (.channelRead 1 12) yard).drop 23 = [0, 1, 0x89, 0xC0] ∧
    reply (.channelRead 1 21) yard = some (.rejected .badField (some ⟨0, 0, 1⟩)) := by decide +kernel

/-- D3's meter at night: an interval of 52,000 against a counter of 90,000 gives 40,000 L/h. -/
theorem test_meterRead_gives_the_rate :
    (rateOf tables { yard with meters := (yard.meters.set 3
      { Meter.startUp with interval := some 90000, lastInterval := some 52000, lastFull := some 11 }) } 3).1 = 40000 ∧
    (body (.meterRead 1 3) yard).take 5 = [0, 0, 0, 3, 1] ∧
    reply (.meterRead 1 6) yard = some (.rejected .badField (some ⟨0, 0, 1⟩)) := by decide +kernel

theorem test_districtRead_names_its_district :
    (body (.districtRead 1 3) yard).take 9 = [0, 0, 0, 3, 1, 0, 0, 0, 3] ∧
    reply (.districtRead 1 5) yard = some (.rejected .badField (some ⟨0, 0, 1⟩)) := by decide +kernel

theorem test_stationRead_names_its_station :
    (body (.stationRead 1 8) yard).take 5 = [0, 0, 0, 8, 0] ∧
    reply (.stationRead 1 9) yard = some (.rejected .badField (some ⟨0, 0, 1⟩)) := by decide +kernel

theorem test_lineResult_shows_the_manual_ask :
    (body (.lineResult 1) (asking 1 true [])).take 5 = [1, 0, 0, 0, 2] := by decide +kernel

theorem test_tableRead_reads_either_copy :
    body (.tableRead 1 1 12 0 1) { yard with staged := { tables with yard := ⟨60, 10, -1, 600, 30, 24, 50⟩ } } =
      [0, 0, 0, 60, 0, 0, 0, 10, 0xFF, 0xFF, 0xFF, 0xFF, 0, 0, 2, 0x58, 0, 0, 0, 30, 0, 0, 0, 24, 0, 0, 0, 50] ∧
    reply (.tableRead 1 0 13 0 1) yard = some (.rejected .badField (some ⟨0, 0, 2⟩)) := by decide +kernel

theorem test_tableWrite_stages :
    (after (.tableWrite 1 7 5 [[0, 20000]]) yard).staged.meter[(5 : Fin 6)] = ⟨0, 20000⟩ ∧
    (after (.tableWrite 1 7 5 [[0, 20000]]) yard).tables = tables ∧
    reply (.tableWrite 1 7 5 [[0, 1], [0, 1]]) yard = some (.rejected .badField (some ⟨0, 0, 3⟩)) := by decide +kernel

theorem test_tableDiscard_gives_up_the_staged_copy :
    (after (.tableDiscard 1) { yard with staged := Tables.default }).staged = tables := by decide +kernel

theorem test_tableCommit_puts_a_change_to_use :
    (let t := after (.tableCommit 1) { yard with staged := { tables with meter := tables.meter.set 5 ⟨1, 20000⟩ } }
     t.tables.meter[(5 : Fin 6)].pulseVolume = 20000 ∧ t.account.running = true ∧ t.part = .run) ∧
    reply (.tableCommit 1) (withValve 3 (travelling .toOpen .plan 5) yard) = some (.rejected .busy (some ⟨6, 0, 0⟩)) := by
  decide +kernel

/-- "Its value and smoothed fields are then 0" (01_measurement_channels.md, The channel record). -/
theorem test_tableCommit_enables_a_channel_afresh :
    (let e : ChannelEntry := defaultChannel 5
     (recommitted { e with enabled := 0 } { e with enabled := 1 } { shows 1462 with status := .off }).value = 0) := by
  decide +kernel

/-! ### Witnesses: states and operands that meet the hypotheses of each statement -/

/-- The part takes requests in every one of these states. -/
theorem reaches_yard (f : State → State) (h : (f yard).supply = true) (r : (f yard).link.receiver = .hunting)
    (p : (f yard).part = .run) : Reaches false (f yard) ∧ Reaches true (f yard) ∧ Listens (f yard) := by
  have l : Listens (f yard) := ⟨h, by rw [r]; decide⟩
  exact ⟨⟨l, .inl p⟩, ⟨l, .inl p⟩, l⟩

theorem witness_yard_takes_requests : Reaches false yard ∧ Reaches true yard ∧ Listens yard :=
  reaches_yard id rfl rfl rfl

theorem witness_EmptyQueueIsOneTick : yard.pending = [] ∧ yard.supply = true ∧ dark.pending = [] ∧ dark.supply = false := by
  decide +kernel

theorem witness_ColdStartIsReset_and_WarmStart :
    dark.supply = false ∧ dark.retained.checkGood = true ∧
    ({ dark with retained := { dark.retained with checkWord := dark.retained.word + 1 } } : State).retained.checkGood =
      false := by
  refine ⟨rfl, Retained.written_checkGood _, ?_⟩
  simp [Retained.checkGood, Retained.word]

theorem witness_WarmStartAndSupplyLoss :
    dark.supply = false ∧ dark.retained.checkGood = true ∧ yard.supply = true ∧ dark.account.running = false ∧
    dark.retained.clockSet = true ∧ (after .supplyLoss lastSecond).account.running = true ∧
    (after .supplyLoss lastSecond).account.hour.isSome = true ∧ (after .supplyLoss State.reset).retained.clockSet = false :=
  ⟨rfl, Retained.written_checkGood _, by decide +kernel⟩

/-- A part one conversion short of its derivation: V2 and V4 OPEN, V6 contradictory, V1 and V8 shut, H4 at TOP by its
crown contact with V7 OPEN. -/
def nearlyDerived : State :=
  { yard with
    part := .startUp, plan := Plan.startUp, line := Line.startUp
    startUp := { StartUp.start with converted := (Vector.replicate 21 true).set 0 false, scans := 2 }
    holders := #v[half, half, half, { half with crownTop := ⟨true, true⟩ }]
    valves := #v[shut, openValve, shut, openValve, shut, { shut with openContact := ⟨true, true⟩ }, openValve, shut] }

/-- Every clause of the derivation and of the roll call's last slot, with an hour open in the gas day and one open in
the day before. -/
theorem witness_StartUpSequence :
    (let s := nearlyDerived
     let t := after (.conversion 0 30000) s
     s.supply = true ∧ planAwake s = false ∧ s.plan = Plan.startUp ∧ 2 ≤ s.startUp.scans ∧
     (∀ i : ChannelId, i ≠ 0 → s.startUp.converted[i] = true) ∧
     derivedOpen s .send s.tables.holderOn s.retained.sendOrder = [0, 1, 2] ∧ derivedState s 1 = .opened ∧
     derivedState s 7 = .closed ∧ derivedState s 5 = .fault ∧ s.valves[(5 : Fin 8)].position = .contradictory ∧
     (s.holders[(3 : Fin 4)].top = false ∧ t.holders[(3 : Fin 4)].top = true) ∧ s.tables.holderOn 3 = true ∧
     State.reset.tables.holderOn 3 = false) ∧
    (let s := { nearlyDerived with startUp := { nearlyDerived.startUp with converted := Vector.replicate 21 true, scans := 1 } }
     s.supply = true ∧ planAwake s = false ∧ s.startUp.scans = 1 ∧ ∀ i : ChannelId, s.startUp.converted[i] = true) ∧
    (lastSlot.supply = true ∧ lastSlot.part = .startUp ∧ lastSlot.line.slot = some 7 ∧
      lastSlot.retained.configured = true ∧ State.reset.retained.configured = false ∧
      lastSlot.account.hold = false ∧ lastSlot.tables.districtOn 2 = true) ∧
    (let s := lastSlot.setAccount { lastSecond.account with hold := true }
     s.account.hold = true ∧ s.account.running = true ∧ s.account.hour.isSome = true ∧
     s.account.day.map Day.nominal = some (gasDayOf s.tables.gasDaySecond s.clock) ∧ s.account.queue.length < 63 ∧
     gasDayOf s.tables.gasDaySecond ⟨18403, 61200⟩ ≠ ⟨18402, 21600⟩) ∧
    (yard.retained.clockSet = true ∧ (34 : Fin 48).val = yard.clock.second / 1800) := by decide +kernel

/-- Both ends of the good range, 9,830 and 57,343, and the counts next to them. -/
theorem witness_Conversion :
    yard.supply = true ∧ planAwake yard = true ∧ yard.tables.channel[(4 : Fin 21)].enabled = 1 ∧
    (yard.tables.channel[(4 : Fin 21)].openThreshold = ((9830 : BitVec 16).toNat : Int) ∧
      yard.tables.channel[(4 : Fin 21)].shortThreshold = ((57343 : BitVec 16).toNat : Int)) ∧
    ((9829 : BitVec 16).toNat : Int) < yard.tables.channel[(4 : Fin 21)].openThreshold ∧
    yard.tables.channel[(4 : Fin 21)].shortThreshold < ((57344 : BitVec 16).toNat : Int) ∧
    ((4 : ChannelId) ≠ heightChannel 1 ∧ (4 : ChannelId) ≠ pressureChannel 1 ∧ (4 : ChannelId) ≠ temperatureChannel 1 ∧
      (4 : ChannelId) ≠ barometer) ∧ State.reset.tables.channel[(4 : Fin 21)].enabled ≠ 1 := by decide +kernel

theorem witness_ConversionOutsideTheHolders :
    yard.supply = true ∧ planAwake yard = true ∧ yard.plan.inbox = [] ∧ 12 < (13 : Fin 21).val ∧
    yard.tables.channel[(13 : Fin 21)].enabled = 1 ∧ State.reset.tables.channel[(13 : Fin 21)].enabled ≠ 1 := by
  decide +kernel

theorem witness_HeightConversion :
    yard.supply = true ∧ planAwake yard = true ∧ yard.tables.holderOn 0 = true ∧
    (after (.conversion (heightChannel 0) 30000) yard).holders[(0 : Fin 4)].usable = true ∧
    (after (.conversion (heightChannel 0) 0)
      (yard.setChannel 0 { shows 11500 with lastGood := none })).holders[(0 : Fin 4)].usable = false ∧
    (∀ x ∈ yard.tables.lifts 0, 0 ≤ x.travel) ∧
    (let pressure (raw : BitVec 16) : Channel := (after (.conversion (pressureChannel 0) raw) yard).channels[(4 : Fin 21)]
     (pressure 9829).usable = true ∧ ∃ first rest, yard.tables.lifts 0 = first :: rest ∧
      first.pressure ≤ 2 * (pressure 23891).smoothed ∧ 2 * ((after (.conversion (pressureChannel 0) 10923)
        (yard.setChannel 4 { shows 0 with seed := true })).channels[(4 : Fin 21)].smoothed) < first.pressure) ∧
    ((half.cups.toList.take ((yard.tables.lifts 0).length - 1)) = [⟨true, true⟩] ++ []) :=
  ⟨rfl, by decide +kernel, by decide +kernel, by decide +kernel, by decide +kernel, by decide +kernel,
    ⟨by decide +kernel, _, _, rfl, by decide +kernel, by decide +kernel⟩, by decide +kernel⟩

theorem witness_ScanCycleDebounces :
    yard.supply = true ∧ planAwake yard = true ∧ (1 : BitVec 4).getLsbD 0 = true ∧ (1 : BitVec 4).getLsbD 1 = false := by
  decide +kernel

theorem witness_DwellExpirySetsDisagree :
    (let s := yard.setHolder 1 { half with disagreeTimer := some 300000 }
     s.supply = true ∧ s.tables.holderOn 1 = true ∧ s.holders[(1 : Fin 4)].disagreeTimer.isSome = true) ∧
    yard.holders[(1 : Fin 4)].disagreeTimer = none ∧ yard.plan.inbox = [] := by decide +kernel

/-- A changeover of the send role between H1 and H3 in hand. -/
def changing : Changeover :=
  { kind := .send, old := some 0, new := some 2, method := .mbb, phase := .openNew, awaited := [], gap := none
    taken := false }

/-- The yard with that changeover in hand. -/
def busyPlan : State := { yard with plan := { yard.plan with record := some changing } }

/-- The yard with a changeover in hand and V8, which has no part in it, changed. -/
def busyWith (x : Valve) : State := withValve 7 x busyPlan

theorem busyWith_elsewhere (x : Valve) : PlanBusyElsewhere 7 (busyWith x) :=
  ⟨rfl, rfl, changing, rfl, by decide, by decide, by decide⟩

theorem witness_TravelTimeoutFaults :
    (let s := busyWith (travelling .toOpen .manual 5)
     PlanBusyElsewhere 7 s ∧ s.supply = true ∧ planAwake s = true ∧ s.tables.valveOn 7 = true ∧
     s.valves[(7 : Fin 8)].state = .opening ∧ s.controls[ownerOf 7].queue = []) ∧
    (busyWith (travelling .toClose .manual 5)).valves[(7 : Fin 8)].state = .closing ∧
    (yard.valves[(7 : Fin 8)].state ≠ .opening ∧ yard.valves[(7 : Fin 8)].state ≠ .closing ∧ yard.plan.inbox = []) :=
  ⟨⟨busyWith_elsewhere _, by decide +kernel⟩, by decide +kernel, by decide +kernel⟩

/-- Each of the five cases, with the state of the valve that meets it. -/
theorem witness_OrdersToValves :
    yard.valves[(7 : Fin 8)].state = Direction.toClose.rest ∧
    (yard.valves[(7 : Fin 8)].state = .closed ∧ yard.valves[(7 : Fin 8)].state ≠ Direction.toOpen.rest) ∧
    (busyWith (travelling .toOpen .manual 5)).valves[(7 : Fin 8)].state = Direction.toOpen.travel ∧
    ((busyWith (travelling .toOpen .manual 5)).valves[(7 : Fin 8)].state ≠ Direction.toClose.travel ∧
      (busyWith (travelling .toOpen .manual 5)).valves[(7 : Fin 8)].originator ≠ .protection) ∧
    ((busyWith (travelling .toClose .protection 5)).valves[(7 : Fin 8)].state ≠ Direction.toOpen.travel ∧
      (busyWith (travelling .toClose .protection 5)).valves[(7 : Fin 8)].originator = .protection) := by decide +kernel

/-- V8 arrives, V8 drifts, H4 comes to its TOP with its inlet open, and a FAULT valve in each position. -/
theorem witness_ValvesAtContactsAndProtection :
    (let s := { busyWith (travelling .toClose .plan 5) with points := yard.points.set 29 { settled false with candidate := some .made } }
     let cycle := scanCycle ((1 <<< 29) ||| 0x12222130) 0 s
     PlanBusyElsewhere 7 s ∧ s.supply = true ∧ planAwake s = true ∧ s.tables.valveOn 7 = true ∧
     s.controls[ownerOf 7].queue = [] ∧ s.valves[(7 : Fin 8)].timer.isSome = true ∧
     s.valves[(7 : Fin 8)].state = .closing ∧ cycle.2 = [⟨.valveShut 7, some ⟨true, true⟩⟩] ∧
     (takeValvePairs cycle.2 cycle.1).valves[(7 : Fin 8)].judged.state = .closed) ∧
    (Valve.judged { shut with shutContact := ⟨false, true⟩ }).cause = .drift ∧
    (let s := busyPlan.setHolder 3 { half with crownTop := ⟨true, true⟩ }
     PlanBusyElsewhere (inletOf 3) s ∧ PlanBusyElsewhere (outletOf 3) s ∧ s.supply = true ∧ planAwake s = true ∧
     s.tables.holderOn 3 = true ∧ s.holders[(3 : Fin 4)].top = false ∧
     (after (.conversion (heightChannel 3) 30000) s).holders[(3 : Fin 4)].top = true ∧
     (after (.conversion (heightChannel 3) 30000) busyPlan).holders[(3 : Fin 4)].top = false) ∧
    (byHand [⟨.openInlet, true⟩]).controls[(3 : Fin 4)].queue ≠ [] ∧
    (shut.position = Direction.toClose.limit ∧ shut.position ≠ Direction.toOpen.limit ∧ shut.position ≠ .contradictory ∧
      ({ shut with openContact := ⟨true, true⟩ } : Valve).position = .contradictory) ∧
    (State.reset.tables.valveOn 7 = false ∧ yard.tables.valveOn 7 = true ∧ yard.holders[(3 : Fin 4)].bottom = false ∧
      (yard.setHolder 3 { half with bottom := true }).holders[(3 : Fin 4)].bottom = true) :=
  ⟨⟨⟨rfl, rfl, changing, rfl, by decide, by decide, by decide⟩, by decide +kernel⟩, by decide +kernel,
    ⟨⟨rfl, rfl, changing, rfl, by decide, by decide, by decide⟩, ⟨rfl, rfl, changing, rfl, by decide, by decide, by decide⟩,
      by decide +kernel⟩, by decide, by decide, by decide +kernel⟩

theorem witness_GapExpiryOpensTheNewValve :
    (gapped.supply = true ∧ planAwake gapped = true ∧
      gapped.plan.record = some { kind := .send, old := some 2, new := some 0, method := .bbm, phase := .gap
                                  awaited := [], gap := some 100000, taken := false } ∧
      eligibleFor gapped .send 0 = true ∧ startAllowed gapped .send (some 2) (some 0) true = true ∧
      gapped.tables.valveOn (RoleKind.send.valve 0) = true ∧ gapped.valves[RoleKind.send.valve 0].state = .closed ∧
      gapped.plan.settle = none ∧ gapped.plan.inbox = []) ∧
    (eligibleFor (gapped.setHolder 0 { half with low := true }) .send 0 = false ∧
      startAllowed (withValve 5 openValve gapped) .send (some 2) (some 0) true = false) ∧
    busyPlan.plan.record.map Changeover.gap = some none ∧ yard.plan.record = none := by decide +kernel

/-- The yard with a record in hand and one of its valves in a state. -/
def phased (c : Changeover) (v : ValveId) (x : Valve) : State :=
  withValve v x { yard with plan := { yard.plan with record := some c } }

/-- A candidate that the send role moves to and one it does not, each case of the fill decision, an end in each phase,
and SEND-SHORT by no holder and by a LOW one. -/
theorem witness_PlanDecisionsAndPhases :
    (let low := yard.setHolder 0 { half with low := true }
     yard.part = .run ∧ yard.plan.record = none ∧ yard.plan.settle = none ∧ eligibleSend yard 3 = true ∧
     yard.tables.relief = some 3 ∧ yard.controls[(0 : Fin 4)].control = .auto ∧ yard.tables.isRelief 3 = true ∧
     startAllowed yard .send (some 0) (some 3) false = true ∧ eligibleSend low 0 = false ∧
     startAllowed (withValve 5 openValve yard) .send (some 0) (some 3) false = false ∧ yard.tables.holderOn 0 = true) ∧
    (let full := yard.setHolder 1 { half with high := true }
     let noFill := { yard with plan := { yard.plan with fill := none } }
     let relief := { yard with plan := { yard.plan with fill := none, reliefFill := true } }
     (fillChoice { yard with plan := { yard.plan with reliefFill := true } } = some (some 3, none)) ∧
     fillChoice { yard with plan := { yard.plan with fillMark := true } } = some (some 1, some 0) ∧
     fillChoice yard = none ∧ fillChoice full = some (some 1, some 0) ∧ fillChoice noFill = some (none, some 0) ∧
     fillChoice relief = some (some 3, some 0)) ∧
    (let c : Changeover := { changing with phase := .openNew }
     c.newValve = some 5 ∧ stateOf (phased c 5 openValve) 5 = .opened ∧ (c.awaited = [] ∧ c.taken = false) ∧
     (phased c 5 openValve).plan.record = some c ∧ (phased c 5 openValve).plan.settle = none ∧
     stateOf (phased c 5 { shut with state := .fault, cause := .timeout }) 5 = .fault) ∧
    (let c : Changeover := { changing with phase := .closeOld, method := .bbm }
     c.oldValve = some 1 ∧ stateOf (phased c 1 shut) 1 = .closed ∧ yard.tables.yard.gapTime ≠ 0 ∧ c.new ≠ none ∧
     stateOf (phased c 1 { shut with state := .fault, cause := .timeout }) 1 = .fault) ∧
    (let c : Changeover := { changing with phase := .stuck, awaited := [5] }
     (∀ w ∈ c.awaited, stateOf (phased c 5 shut) w = .closed) ∧ ∃ w ∈ c.awaited, stateOf (phased c 5 openValve) w ≠ .closed) ∧
    ({ yard with plan := { yard.plan with send := none } } : State).plan.record = none ∧
    (∀ g : HolderId, g ≠ 0 → eligibleSend { yard with holders := Vector.replicate 4 { half with low := true } } g = false) ∧
    lastSlot.part ≠ .run := by
  refine ⟨by decide +kernel, by decide +kernel, by decide +kernel, by decide +kernel, ⟨by decide +kernel, 5, by decide, by decide +kernel⟩, rfl,
    by decide +kernel, by decide⟩

/-- A role lost with its valve and one taken by the holder whose valve becomes OPEN, of two the lower-numbered; a record
that governs a role; a SETTLE record with a valve CLOSED and with all; and the gap's start conditions either way. -/
theorem witness_PlanDecisionsAndPhases_roles :
    (yard.plan.send = some 0 ∧ (RoleKind.send.valve 0) = 1 ∧ stateOf (withValve 1 shut yard) 1 = .closed ∧
      stateOf yard 1 ≠ .closed) ∧
    BecomesOpen (withValve 5 openValve (withValve 3 openValve yard)) [.changed 5 .opened, .ended 3 .arrived .opened] 3 ∧
    BecomesOpen (withValve 5 openValve (withValve 3 openValve yard)) [.changed 5 .opened, .ended 3 .arrived .opened] 5 ∧
    (yard.tables.relief = some 3 ∧ changing.kind = .send ∧ busyPlan.plan.record = some changing) ∧
    ((∀ v ∈ ([3] : List ValveId), stateOf yard v = .closed) ∧
      ∃ v ∈ ([1, 3] : List ValveId), stateOf yard v ≠ .closed) ∧
    startAllowed gapped .send (some 2) (some 0) true = true ∧
    startAllowed (withValve 5 openValve gapped) .send (some 2) (some 0) true = false := by
  refine ⟨by decide +kernel, ⟨by decide +kernel, .inr ⟨.arrived, by decide⟩⟩, ⟨by decide +kernel, .inl (by decide)⟩, ?_⟩
  decide +kernel

theorem witness_ValveConfirm :
    Reaches false yard ∧ yard.valves[(0 : Fin 8)].state ≠ .fault ∧ State.reset.tables.valveOn 0 = false ∧
    (let s := busyWith { shut with state := .fault, cause := .drift }
     Reaches false s ∧ s.part = .run ∧ PlanBusyElsewhere 7 s ∧ s.tables.valveOn 7 = true ∧
     s.valves[(7 : Fin 8)].state = .fault) :=
  ⟨witness_yard_takes_requests.1, by decide +kernel, by decide +kernel,
    (reaches_yard (fun s => withValve 7 _ { s with plan := { s.plan with record := some changing } }) rfl rfl rfl).1,
    rfl, busyWith_elsewhere _, by decide +kernel, by decide +kernel⟩

theorem witness_HolderHoldAndFree :
    Reaches false yard ∧ yard.tables.holderOn 3 = true ∧ yard.controls[(3 : Fin 4)].control = .auto ∧
    Reaches false (byHand []) ∧ (byHand []).controls[(3 : Fin 4)].control = .manual ∧
    (byHand []).controls[(3 : Fin 4)].queue = [] ∧ (stateOf (byHand []) (inletOf 3)).travelling = false ∧
    (stateOf (byHand []) (outletOf 3)).travelling = false ∧
    (byHand [⟨.openInlet, true⟩]).controls[(3 : Fin 4)].queue ≠ [] ∧ State.reset.tables.holderOn 3 = false :=
  ⟨witness_yard_takes_requests.1, by decide +kernel, by decide +kernel, (reaches_yard (State.setControl · 3 _) rfl rfl rfl).1,
    by decide +kernel⟩

theorem witness_HolderOrderIsQueued :
    Reaches false (byHand [⟨.openInlet, true⟩]) ∧ handOrder 0 = some .openInlet ∧ handOrder 3 = some .closeOutlet ∧
    (byHand [⟨.openInlet, true⟩]).tables.holderOn 3 = true ∧
    (byHand [⟨.openInlet, true⟩]).controls[(3 : Fin 4)].control = .manual ∧
    0 < (byHand [⟨.openInlet, true⟩]).controls[(3 : Fin 4)].queue.length ∧
    (byHand (List.replicate 7 ⟨.openInlet, false⟩)).controls[(3 : Fin 4)].queue.length < 8 ∧
    8 ≤ (byHand (List.replicate 8 ⟨.openInlet, false⟩)).controls[(3 : Fin 4)].queue.length ∧
    yard.controls[(3 : Fin 4)].control = .auto :=
  ⟨(reaches_yard (State.setControl · 3 _) rfl rfl rfl).1, by decide +kernel⟩

/-- The yard with H4 by hand and a changeover in hand that V8 and V7 have no part in. -/
def handBusy : State := { byHand [] with plan := { yard.plan with record := some changing } }

theorem witness_HolderOrderComesToRun :
    Reaches false (byHand []) ∧ (byHand []).plan.inbox = [] ∧
    interlockOf (byHand []) 3 .openOutlet = some .outletInUse ∧ interlockOf (byHand []) 3 .closeInlet = none ∧
    (byHand []).valves[HandOrder.closeInlet.valve 3].state = HandOrder.closeInlet.direction.rest ∧
    PlanBusyElsewhere (HandOrder.openInlet.valve 3) handBusy ∧ handBusy.part = .run ∧
    interlockOf handBusy 3 .openInlet = none ∧ handBusy.valves[HandOrder.openInlet.valve 3].state = .closed :=
  ⟨(reaches_yard (State.setControl · 3 _) rfl rfl rfl).1, by decide +kernel, by decide +kernel, by decide +kernel,
    by decide +kernel, ⟨rfl, rfl, changing, rfl, by decide, by decide, by decide⟩, rfl, by decide +kernel,
    by decide +kernel⟩

/-- A valve in FAULT at a position. -/
def faulty (opened shut' : Bool) : Valve :=
  { shut with state := .fault, cause := .drift, openContact := ⟨opened, true⟩, shutContact := ⟨shut', true⟩ }

/-- The other valves of such an order, H4's inlet ordered open: under PLAN, by hand either way, and in FAULT at the
stop, contradictory and between. -/
theorem witness_HolderOrderComesToRun_valves :
    Reaches false (withValve 6 (travelling .toOpen .plan 5) (byHand [])) ∧ HandOrder.openInlet.valve 3 = 6 ∧
    (let x := travelling .toOpen .plan 5
     x.state = .opening ∧ x.originator ≠ .manual ∧ (withValve 6 x (byHand [])).valves[(6 : Fin 8)] = x) ∧
    (travelling .toOpen .manual 5).state = HandOrder.openInlet.direction.travel ∧
    (travelling .toClose .manual 5).state ≠ HandOrder.openInlet.direction.travel ∧
    (travelling .toClose .manual 5).originator = .manual ∧
    (faulty true true).position = .contradictory ∧ (faulty true false).position = HandOrder.openInlet.direction.limit ∧
    (faulty false false).position ≠ HandOrder.openInlet.direction.limit ∧
    (faulty false false).position ≠ .contradictory ∧
    (∀ x ∈ [travelling .toClose .manual 5, faulty true true, faulty true false, faulty false false],
      interlockOf (withValve 6 x handBusy) 3 .openInlet = none ∧ (withValve 6 x handBusy).part = .run) :=
  ⟨(reaches_yard (fun s => withValve 6 _ (s.setControl 3 _)) rfl rfl rfl).1, by decide +kernel⟩

theorem witness_InterlocksRefuse :
    (let s := yard.setHolder 3 { half with top := true, bottom := true }
     s.holders[(3 : Fin 4)].top = true ∧ s.holders[(3 : Fin 4)].bottom = true ∧
     interlockOf s 3 .openInlet = some .atTop ∧ interlockOf s 3 .openOutlet = some .outletInUse ∧
     interlockOf (withValve 1 shut s) 3 .openOutlet = some .atBottom) ∧
    interlockOf yard 3 .openInlet = none ∧ interlockOf yard 0 .openInlet = some .inletInUse ∧
    interlockOf (withValve 1 shut yard) 3 .openOutlet = none := by decide +kernel

/-- Lists of one and of four holders, none of them the relief holder in the FILL order. -/
theorem witness_PlanSetReplacesBothOrders :
    Reaches false yard ∧ ([] : List Nat).length < 1 ∧ 4 < [1, 2, 3, 1, 2].length ∧
    (1 ≤ ([2] : List HolderId).length ∧ ([2] : List HolderId).Nodup ∧ (∀ h ∈ ([2] : List HolderId), yard.tables.isRelief h = false)) ∧
    (([3, 0, 2, 1] : List HolderId).Nodup) ∧ (4 = number (3 : HolderId) ∧ yard.tables.isRelief 3 = true) ∧
    ([1, 2, 1] : List Nat) = [1, 2] ++ 1 :: [] ∧ Reaches false busyPlan ∧ busyPlan.plan.record = some changing ∧
    changing.phase ≠ .stuck :=
  ⟨witness_yard_takes_requests.1, by decide, by decide, by decide +kernel, by decide, by decide +kernel, rfl,
    ⟨⟨rfl, by decide⟩, .inl rfl⟩, rfl, by decide⟩

theorem witness_PulsesAndIntervals :
    yard.supply = true ∧ yard.tables.meterOn 1 = true ∧ yard.check.active = false ∧
    (let s := yard.setCheck armed
     (2 : PulseId) ≠ 5 ∧ s.check.target = some 0 ∧ (2 : PulseId) ≠ (0 : Fin 5).castSucc) ∧
    State.reset.tables.meterOn 1 = false ∧
    (yard.meters.set 1 { Meter.startUp with interval := some 0 })[(1 : Fin 6)].interval.isSome = true ∧
    yard.meters[(1 : Fin 6)].interval = none := by decide +kernel

/-- A check under way. -/
def running (targetCount checkCount : Nat) : Check :=
  { armed with state := .running, target := some 1, targetCount := targetCount, checkCount := checkCount
               gateTimer := some 5 }

/-- An ARMED check and RUNNING ones at both sides of N and of the count's limit. -/
theorem witness_CheckPulses :
    yard.supply = true ∧ yard.tables.meterOn 5 = true ∧ yard.tables.meterOn 1 = true ∧ armed.target = some 0 ∧
    armed.state = .armed ∧ (0 : PulseId) = (0 : Fin 5).castSucc ∧
    ((running 48 5).state = .running ∧ (running 48 5).targetCount + 1 < (running 48 5).pulses) ∧
    (running 49 5).pulses ≤ (running 49 5).targetCount + 1 ∧ (running 0 16777214).checkCount < 16777215 ∧
    16777215 ≤ (running 0 16777215).checkCount ∧
    (10000 + 10 * 5 < roundDiv (((running 49 600).checkCount : Int) * 10000 * 10000) (50 * 100000)) ∧
    ((2 : PulseId) ≠ 5 ∧ (2 : PulseId) ≠ (1 : Fin 5).castSucc) ∧ Check.startUp.state ≠ .armed ∧
    Check.startUp.state ≠ .running ∧
    (let m : Meter := { Meter.startUp with counter := 65535, stage := true }
     m.saturated = false ∧ ¬m.counter < 65535 ∧ m.stage = true) := by decide +kernel

theorem witness_CheckStartAndTimeout :
    Reaches false yard ∧ yard.check.state ≠ .armed ∧ yard.check.state ≠ .running ∧
    yard.tables.meterOn (4 : Fin 5).castSucc = true ∧ yard.tables.meterOn 5 = true ∧
    Reaches false (yard.setCheck armed) ∧ (yard.setCheck armed).check.state = .armed ∧
    (yard.setCheck (running 0 0)).check.state = .running ∧ State.reset.tables.meterOn 5 = false :=
  ⟨witness_yard_takes_requests.1, by decide +kernel, by decide +kernel, by decide +kernel, by decide +kernel,
    (reaches_yard (State.setCheck · armed) rfl rfl rfl).1, by decide +kernel⟩

theorem witness_CheckStop :
    Listens { yard with part := .unconfigured } ∧ Reaches false (yard.setCheck armed) ∧
    (yard.setCheck armed).check.state = .armed ∧ Reaches false yard ∧ yard.check.state = .idle ∧
    exec (.checkStop 1) yard = .next (after (.checkStop 1) yard) ∧
    exec (.pulse 1) (after (.checkStop 1) yard) = .next (after (.pulse 1) (after (.checkStop 1) yard)) :=
  ⟨⟨rfl, by decide⟩, (reaches_yard (State.setCheck · armed) rfl rfl rfl).1, rfl, witness_yard_takes_requests.1, rfl, rfl,
    rfl⟩

/-- The clock right before second 86,400 of day 65,535, inside a minute, and with the unit RUNNING. -/
theorem witness_ClockSecondWithinAMinute :
    dark.supply = false ∧ yard.supply = true ∧ (yard.clock.second + 1) % 60 ≠ 0 ∧ yard.account.running = false ∧
    (let s := yard.setAccount { lastSecond.account with hold := false }
     (s.clock.second + 1) % 60 ≠ 0 ∧ s.account.running = true ∧ s.account.hold = false) ∧
    ({ dark with retained := { dark.retained with clock := ⟨65535, 86399⟩ } } : State).supply = false := by
  decide +kernel

theorem witness_MinuteEndClosesWindows :
    (let s := { lastSecond with retained := { lastSecond.retained with clock := ⟨18402, 63719⟩ } }
     s.supply = true ∧ s.clock.second < 86399 ∧ (s.clock.second + 1) % 60 = 0 ∧ (s.clock.second + 1) % 3600 ≠ 0 ∧
     s.tables.meterOn 1 = true ∧ (1 : Fin 5).castSucc = (1 : PulseId)) ∧
    State.reset.tables.meterOn 1 = false := by decide +kernel

/-- An hour end within a gas day, the gas day's start at 6, and midnight on the last day number with gas days that start
then and that do not. -/
theorem witness_HourEndFilesARecord :
    lastSecond.supply = true ∧ (lastSecond.clock.second + 1) % 3600 = 0 ∧
    lastSecond.clock.second + 1 ≠ lastSecond.tables.gasDaySecond ∧ lastSecond.account.running = true ∧
    lastSecond.account.hold = false ∧ lastSecond.account.hour.isSome = true ∧ lastSecond.account.day.isSome = true ∧
    lastSecond.account.queue.length < 63 ∧
    (let s := { lastSecond with retained := { lastSecond.retained with clock := ⟨18403, 21599⟩ } }
     (s.clock.second + 1) % 3600 = 0 ∧ s.clock.second + 1 = s.tables.gasDaySecond) ∧
    (let s := { lastSecond with retained := { lastSecond.retained with clock := ⟨65535, 86399⟩ } }
     (0 : Nat) % 3600 = 0 ∧ 0 ≠ s.tables.gasDaySecond ∧
     0 = { tables with account := { tables.account with gasDayStart := 0 } }.gasDaySecond) := by decide +kernel

/-- The greatest day and second, and a second beyond. -/
theorem witness_ClockSet :
    Reaches true yard ∧ (65535 ≤ 65535 ∧ 86399 ≤ 86399) ∧ (65535 < 65536 ∧ 86399 < 86400) ∧
    yard.retained.configured = true ∧ lastSecond.account.running = true ∧ yard.tables.meterOn 0 = true ∧
    State.reset.tables.meterOn 0 = false ∧ yard.account.running = false ∧ yard.retained.clockSet = true ∧
    State.reset.retained.clockSet = false ∧ lastSecond.account.hour.isSome = true ∧
    lastSecond.account.queue.length < 63 ∧
    (lastSecond.account.day.map Day.nominal = some ⟨18402, 21600⟩ ∧ lastSecond.tables.gasDaySecond = 21600) :=
  ⟨witness_yard_takes_requests.2.1, by decide, by decide, by decide +kernel⟩

/-- An hour with a make of 0 and a fall of stock past the floor, and a day of the same sort. -/
theorem witness_UagClassLimits :
    (let e : AccountEntry := ⟨6, 30, 80, 5000⟩
     let h : Hour := ⟨⟨0, 0⟩, ⟨0, 0⟩, 60, Flags.none, 90000000⟩
     let s := yard.setAccount { yard.account with hour := some h }
     s.account.hour = some h ∧ (hourRecord e Flags.none h s).uagClass = .alarm ∧ (hourRecord e Flags.none h s).make ≤ 0 ∧
     0 ≤ e.floor ∧ 0 ≤ e.advisory ∧ 0 ≤ e.alarm ∧
     (lastSecond.account.day.map fun d => (dayRecord e Flags.none 90000000 d).uagClass) = some .alarm) := by
  decide +kernel

/-- Queues of 64 records: two DAY records before the first HOUR record, and DAY records alone. -/
theorem witness_AccountQueue :
    Reaches false (queued [record 6 true, record 7 false, record 8 false]) ∧
    (∀ r ∈ (queued [record 6 true]).account.queue, r.sequence ≠ 7) ∧ (queued []).account.queue.length < 64 ∧
    (queued ([record 6 true, record 7 true] ++ record 8 false :: List.replicate 61 (record 9 false))).account.queue.length
      = 64 ∧
    (∀ y ∈ [record 6 true, record 7 true], y.dayRecord = true) ∧ (record 8 false).dayRecord = false ∧
    (∀ y ∈ record 6 true :: List.replicate 63 (record 7 true), y.dayRecord = true) ∧
    (∀ x ∈ [record 6 true], x.sequence ≠ (record 7 false).sequence) :=
  ⟨(reaches_yard (State.setAccount · _) rfl rfl rfl).1, by decide +kernel, by decide, by decide +kernel, by decide,
    by decide, by decide +kernel, by decide⟩

theorem witness_TickSlewsAndCuts :
    peak.supply = true ∧ peak.press.tickTimer.isSome = true ∧ peak.tables.districtOn 2 = true ∧
    peak.districts[(2 : Fin 4)].frozen = false ∧ ({ quiet with frozen := true } : District).frozen = true ∧
    State.reset.tables.districtOn 2 = false ∧ peak.press.begun = true ∧ State.reset.press.tickTimer = none ∧
    (peak.retained.clockSet = true ∧ peak.clock.second ≤ 86399 ∧ State.reset.retained.clockSet = false) ∧
    (peak.tables.meterOn 3 = true ∧ State.reset.tables.meterOn 3 = false ∧
      peak.meters[(3 : Fin 6)].lastFull = some 300 ∧ 60 ≤ 300 ∧ peak.meters[(2 : Fin 6)].lastFull = none ∧
      (∀ n, ({ Meter.startUp with lastFull := some 59 } : Meter).lastFull = some n → n < 60)) ∧
    (peak.press.send = some 0 ∧ State.reset.press.send = none) :=
  ⟨rfl, rfl, by decide +kernel, by decide +kernel, rfl, by decide +kernel, rfl, rfl, by decide +kernel,
    ⟨by decide +kernel, by decide +kernel, by decide +kernel, by decide, by decide +kernel, fun n h => by cases h; decide⟩, rfl, rfl⟩

/-- A FAILED booster. -/
def failed : State := yard.setBooster { Booster.startUp with state := .failed, cause := some .noStart }

/-- K2, the booster's contact, about to change to a reading with every other contact as it was. -/
def boosterReads (made : Bool) (b : Booster) : State :=
  { yard with points := yard.points.set 2
                { settled (!made) with candidate := some (if made then .made else .broken) }
              booster := b }

/-- The readings of the yard's contacts, with K2's. -/
def readings (made : Bool) : BitVec 64 := BitVec.ofNat 64 (if made then 0x22222156 else 0x22222152)

/-- A booster in a state, its demand set or clear. -/
def boosterIn (st : BoosterState) (demand : Bool) (contact : Pair) : Booster :=
  { Booster.startUp with state := st, demand := demand, contact := contact }

/-- Each state at an evaluation with the demand it needs, each contact event, the lost send holder and the timers. -/
theorem witness_BoosterTimersAndReset :
    ((peak.supply = true ∧ peak.press.tickTimer.isSome = true ∧ peak.press.begun = true ∧
        peak.press.boosterWaits = false ∧ peak.booster.demand = false ∧ peak.booster.state = .idle ∧
        (after .tick peak).booster.demand = true ∧ peak.press.send.isSome = true ∧ peak.tables.boosterFitted = true ∧
        peak.booster.contact ≠ ⟨true, true⟩) ∧
      ((after .tick (peak.setBooster (boosterIn .idle false ⟨true, true⟩))).booster.demand = true) ∧
      (after .tick (peak.setBooster (boosterIn .running true ⟨true, true⟩))).booster.demand = true ∧
      (after .tick (peak.setBooster (boosterIn .runOn true ⟨true, true⟩))).booster.demand = true ∧
      (after .tick (yard.setBooster (boosterIn .running true ⟨true, true⟩))).booster.demand = false ∧
      (after .tick (yard.setBooster (boosterIn .runOn false ⟨true, true⟩))).booster.demand = false ∧
      (after .tick yard).booster.demand = false) ∧
    (planAwake yard = true ∧ yard.plan.inbox = [] ∧
      (∀ b ∈ [boosterIn .starting true Pair.startUp, boosterIn .running true ⟨true, true⟩, boosterIn .idle false Pair.startUp],
        (scanCycle (readings true) 0 (boosterReads true b)).2 = [⟨.boosterRun, some ⟨true, true⟩⟩] ∧
        (scanCycle (readings false) 0 (boosterReads false b)).2 = [⟨.boosterRun, some ⟨false, true⟩⟩])) ∧
    (yard.press.send.isSome = true ∧ Plan.startUp.send = none) ∧
    (let s := peak.setBooster { Booster.startUp with state := .starting, runLine := true, startTimer := some 300000 }
     s.supply = true ∧ s.booster.startTimer.isSome = true) ∧
    (let s := peak.setBooster { Booster.startUp with state := .runOn, runLine := true, runOnTimer := some 1200000 }
     s.supply = true ∧ s.booster.runOnTimer.isSome = true ∧ (after .runOnExpiry s).booster.demand = true ∧
     s.press.begun = true ∧ s.press.boosterWaits = false ∧ s.press.send.isSome = true ∧ s.tables.boosterFitted = true) ∧
    (let s := yard.setBooster { Booster.startUp with state := .runOn, runLine := true, runOnTimer := some 1200000 }
     (after .runOnExpiry s).booster.demand = false) ∧
    yard.booster.startTimer = none ∧ yard.booster.runOnTimer = none ∧ yard.booster.state ≠ .failed ∧
    Reaches false failed ∧ failed.booster.state = .failed ∧ (after (.boosterReset 1) failed).booster.demand = false :=
  ⟨by decide +kernel, by decide +kernel, by decide +kernel, by decide +kernel, by decide +kernel, by decide +kernel, rfl,
    rfl, by decide, (reaches_yard (State.setBooster · _) rfl rfl rfl).1, rfl, by decide +kernel⟩

theorem witness_LineDriverEvents :
    yard.supply = true ∧ (lined fun l => { l with driver := .ask }).line.driver = .ask ∧
    (lined fun l => { l with driver := .dropped }).line.driver = .dropped ∧
    (lined fun l => { l with driver := .call }).line.driver = .call ∧
    (let l := (lined fun l => { l with quiet := some 0, callWaiting := true, state := .calling }).line
     l.quiet.isSome = true ∧ l.driver ≠ .dropped ∧ l.callWaiting = true ∧ l.state = .calling) ∧
    (let l := (lined fun l => { l with quiet := some 0, pollWaiting := true, roundList := [2, 3] }).line
     l.pollWaiting = true ∧ l.state = .polling ∧ l.roundList = 2 :: [3] ∧ yard.tables.stationOn 2 = true ∧
     l.callWaiting = false ∧ l.driver ≠ .dropped) ∧
    (yard.tables.stationOn 4 = false ∧ [4, 2, 3] = ([4] : List StationId) ++ 2 :: [3]) ∧
    (let l := (lined fun l => { l with quiet := some 0, pollWaiting := true, state := .held }).line
     l.callWaiting = false ∧ l.state ≠ .polling) := by decide +kernel

/-- An answer at the stale limit of 120 s, its check worked by the line's own polynomial, and one byte of an answer. -/
theorem witness_StationAnswers :
    (let s := asking 0 false [1, 1, 0x05, 0x26, 120]
     let k := crc8 [1, 1, 0x05, 0x26, 120]
     s.supply = true ∧ s.line.ask = some ⟨0, .readPoint, 0, false⟩ ∧ s.line.window.isSome = true ∧
     latestFrame (s.line.bytes ++ [k]) = some ⟨1, 1, 1318, 120⟩ ∧ (1 : Byte) = BitVec.ofNat 8 (number (0 : StationId)) ∧
     s.tables.stationOn 0 = true ∧ (120 : Int) ≤ s.tables.station[(0 : Fin 8)].staleLimit ∧
     districtServedBy s.tables 0 = some 0 ∧ districtServedBy State.reset.tables 0 = none ∧
     s.tables.station[(0 : Fin 8)].district = (number (0 : DistrictId) : Int) ∧ s.account.running = false ∧
     lastSecond.account.running = true ∧ lastSecond.account.hold = false ∧ lastSecond.account.day.isSome = true) ∧
    (∀ f ∈ [([1, 3, 0, 0, 0], 3), ([1, 2, 0, 0, 0], 2), ([1, 1, 0, 0, 121], 1), ([2, 1, 0, 0, 0], (1 : Byte))],
      (latestFrame (f.1 ++ [crc8 f.1])).map StationFrame.code = some f.2) ∧
    (asking 1 true []).line.ask = some ⟨1, .readPoint, 0, true⟩ ∧ yard.tables.stationOn 4 = false ∧
    latestFrame ((asking 0 false []).line.bytes ++ [1]) = none ∧ yard.line.window = none ∧ yard.line.slot = none := by
  decide +kernel

theorem witness_AnswerWindowCloses :
    (asking 1 false []).supply = true ∧ (asking 1 false []).line.ask = some ⟨1, .readPoint, 0, false⟩ ∧
    (asking 1 false []).line.window.isSome = true ∧ (asking 1 false []).tables.stationOn 1 = true ∧
    (asking 1 false []).stations[(1 : Fin 8)].presence ≠ .absent ∧ 2 ≤ (asking 1 false []).stations[(1 : Fin 8)].misses ∧
    (asking 1 true [1]).line.ask.map Ask.manual = some true ∧ (asking 1 true [1]).line.window.isSome = true ∧
    yard.line.window = none := by decide +kernel

theorem witness_ReadingAges : yard.supply = true ∧ yard.tables.stationOn 0 = true ∧
    yard.stations[(0 : Fin 8)].reading.isSome = true := by decide +kernel

theorem witness_PollExpiry :
    ((asking 1 true []).line.ask = some ⟨1, .readPoint, 0, true⟩ ∧ (asking 1 true []).line.state = .manualBusy) ∧
    yard.supply = true ∧ yard.line.pollTimer.isSome = true ∧ yard.line.ask = none ∧
    (lined fun l => { l with state := .held }).line.state ≠ .polling ∧
    (lined fun l => { l with quiet := some 5 }).line.quiet.isSome = true ∧ yard.line.state = .polling ∧
    yard.line.quiet = none ∧ yard.line.roundList = [] ∧
    (lined fun l => { l with roundList := [4, 6, 2, 3] }).line.roundList = [4, 6] ++ 2 :: [3] ∧
    (∀ g ∈ ([4, 6] : List StationId), yard.tables.stationOn g = false) ∧ yard.tables.stationOn 2 = true := by
  decide +kernel

/-- The first slot in a start-up and the eighth outside one. -/
theorem witness_RollCallSlotCloses :
    (let s := { lastSlot with line := { lastSlot.line with slot := some 0 } }
     s.supply = true ∧ s.line.slot = some 0 ∧ ((0 : StationId) ≠ 7 ∨ s.part ≠ .startUp)) ∧
    (let s := lined fun l => { l with state := .calling, slot := some 7 }
     s.supply = true ∧ s.line.slot = some 7 ∧ s.line.ask = none ∧ ((7 : StationId) ≠ 7 ∨ s.part ≠ .startUp)) := by
  decide +kernel

theorem witness_LineHoldFreeKill :
    Reaches false (asking 1 true []) ∧ (asking 1 true []).line.state = .manualBusy ∧
    (asking 1 true []).line.ask = some ⟨1, .readPoint, 0, true⟩ ∧ (asking 1 true []).line.window = some 450 ∧
    Reaches false yard ∧ yard.line.state = .polling ∧ (lined fun l => { l with state := .calling }).line.state = .calling ∧
    (lined fun l => { l with state := .held }).line.state = .held :=
  ⟨⟨⟨rfl, by decide⟩, .inl rfl⟩, rfl, rfl, rfl, witness_yard_takes_requests.1, rfl, rfl, rfl⟩

theorem witness_LineAskAndRestart :
    Reaches false (lined fun l => { l with state := .held }) ∧
    (lined fun l => { l with state := .held }).line.quiet = none ∧
    (3, AskFunction.echo) ∈ [(1, AskFunction.readPoint), (2, .readStatus), (3, .echo)] ∧
    (8 : Nat) = number (7 : StationId) ∧ Reaches false yard ∧ yard.line.state ≠ .calling ∧ yard.line.ask = none ∧
    yard.line.quiet = none ∧ Reaches false (asking 1 true []) ∧ (asking 1 true []).line.ask ≠ none ∧
    (lined fun l => { l with state := .held, quiet := some 5 }).line.quiet.isSome = true :=
  ⟨⟨⟨rfl, by decide⟩, .inl rfl⟩, rfl, by decide, by decide, witness_yard_takes_requests.1, by decide, rfl, rfl,
    ⟨⟨rfl, by decide⟩, .inl rfl⟩, by decide, rfl⟩

/-- Lists that meet each case: empty, full with and without an ENDED entry, and an entry in each state. -/
theorem witness_AlarmDeliveries :
    (AlarmList.startUp.entries.find? fun e => decide (e.kind = .checkDone ∧ e.index = 0)) = none ∧
    32 ≤ fullList.entries.length ∧ fullList.entries = [] ++ slow :: standing ∧ slow.state = .ended ∧
    (∀ e ∈ standing, e.state ≠ .ended) ∧ 32 ≤ ({ slow with state := .standing } :: standing).length ∧
    (∀ x : EntryState, ((⟨[⟨.checkDone, 0, x, ⟨0, 0⟩, true, 65535⟩], false, true⟩ : AlarmList).entries.find? fun e =>
      decide (e.kind = .checkDone ∧ e.index = 0)).map AlarmEntry.state = some x) :=
  ⟨by decide, by decide, rfl, by decide, by decide +kernel, by decide, fun x => by cases x <;> decide⟩

/-- Both ends of a range, and each state of an entry. -/
theorem witness_Acknowledgements :
    Reaches true yard ∧ sourceRange 0 = none ∧ sourceRange 13 = none ∧ sourceRange 4 = some (1, 8) ∧
    kindOfCode 24 = none ∧ kindOfCode 0 = none ∧ kindOfCode 11 = some .valveSlow ∧
    AlarmKind.valveSlow.sourceType = 4 ∧ AlarmKind.valveSlow.sourceType ≠ 1 ∧ yard.alarms.lookup .valveSlow 8 = none ∧
    (fullList.lookup .valveSlow 3).map AlarmEntry.state = some .ended ∧
    (fullList.lookup .channelFault 20).map AlarmEntry.state = some .standing ∧
    (State.reset.alarms.lookup .clockUnset 0).map AlarmEntry.state = some .raised :=
  ⟨witness_yard_takes_requests.2.1, by decide +kernel⟩

/-- The greatest count of a frame, 246, and the byte before its last. -/
theorem witness_ReceiverEvents :
    yard.supply = true ∧ yard.link.receiver = .hunting ∧ (after (.clockRead 7) yard).link.receiver = .closed ∧
    nearlyFramed.link.receiver = .receiving ∧ (([0xC3] : List Byte) = [0xC3]) ∧
    (([2, 0x0B] : List Byte).length + 3 < (2 : Byte).toNat + 4) ∧
    nearlyFramed.link.buffer = 0xC3 :: 2 :: [0x0B, 7] ++ [0x6E] ∧ ([0x0B, 7] : List Byte).length = (2 : Byte).toNat ∧
    wordBytes (crc16 (0xC3 :: 2 :: [0x0B, 7])) ≠ [0x6E, 0xC4] ∧ (2 ≤ (246 : Byte).toNat ∧ (246 : Byte).toNat ≤ 246) ∧
    yard.link.answer = none ∧ (after (.clockRead 7) yard).link.answer.isSome = true ∧
    (after (.clockRead 7) yard).link.restarting = false ∧ restarting.link.answer.isSome = true ∧
    restarting.link.restarting = true := by decide +kernel

theorem witness_RequestsHeldBack :
    requestParts (.clockRead 7) = some (0x0B, 7, []) ∧ dark.supply = false ∧
    requestParts (.holderHold 7 1) = some (0x26, 7, [1]) ∧ 0x21 ≤ (0x26 : Byte).toNat ∧ Listens lastSlot ∧
    lastSlot.part = .startUp ∧ Listens { yard with part := .unconfigured } ∧
    (0x26 : Byte) ∉ ([0x21, 0x22, 0x23, 0x24, 0x32, 0x33, 0x35] : List Byte) :=
  ⟨rfl, by decide +kernel, by decide, by decide, ⟨rfl, by decide⟩, rfl, ⟨rfl, by decide⟩, by decide⟩

/-- The yard with all of a request's frame received but its last byte. -/
def framing (code tag : Byte) (body : List Byte) : State :=
  { yard with link := { yard.link with receiver := .receiving, buffer := (requestFrame code tag body).dropLast } }

/-- The codes on either side of the catalogue's two runs, a body short by a byte and one long by a byte, and an entry of
one figure for a table whose entries have two. -/
theorem witness_RequestsHeldBack_frames :
    (∀ code ∈ ([0x00, 0x0D, 0x20, 0x36] : List Byte), ¬InCatalogue code) ∧
    (∀ code ∈ ([0x01, 0x0C, 0x21, 0x35, 0x26, 0x0B] : List Byte), InCatalogue code) ∧
    (¬BodyFits 0x26 [] ∧ ¬BodyFits 0x0B [0]) ∧
    (framing 0x36 7 []).supply = true ∧ (framing 0x36 7 []).link.receiver = .receiving ∧
    ([] : List Byte).length ≤ 244 ∧
    (framing 0x36 7 []).link.buffer ++ [(requestFrame 0x36 7 []).getLast!] = requestFrame 0x36 7 [] ∧
    (framing 0x26 7 []).link.buffer ++ [(requestFrame 0x26 7 []).getLast!] = requestFrame 0x26 7 [] ∧
    ((tableSize 7).1 ≠ 0 ∧ ∃ e ∈ [[(0 : Int)]], e.length ≠ (tableSize 7).2) := by
  refine ⟨?_, ?_, ⟨by simp [BodyFits], by simp [BodyFits]⟩, by decide +kernel⟩ <;> (unfold InCatalogue; decide)

theorem witness_ReadsChangeNothing : Listens yard ∧ (4 < 5) ∧ (20 < 21) ∧ (8 < 9) :=
  ⟨witness_yard_takes_requests.2.2, by decide, by decide, by decide⟩

theorem witness_ListReads :
    Listens (queued [record 7 false]) ∧
    ((queued [record 7 false]).account.queue.find? fun x => decide (x.sequence = 7)) = some (record 7 false) ∧
    (∀ x ∈ (queued [record 7 false]).account.queue, x.sequence ≠ 8) ∧ (1 ≤ 32 ∧ 32 ≤ 32) ∧
    (tableSize 12).1 ≤ 1 ∧ ((0 : Nat) < (tableSize 9).1 ∧ (tableSize 9).1 < 0 + 5) ∧ 0 + 4 ≤ (tableSize 9).1 ∧
    ¬243 < 4 * (tableSize 9).2 * 4 ∧ 243 < 4 * (tableSize 4).2 * 9 :=
  ⟨⟨rfl, by decide⟩, by decide +kernel, by decide +kernel, by decide, by decide, by decide, by decide, by decide, by decide⟩

theorem witness_TableWriteAndDiscard :
    Reaches true yard ∧ (∀ e ∈ ([[0, 20000]] : List (List Int)), e.length = (tableSize 7).2) ∧
    5 + [[0, 20000]].length ≤ (tableSize 7).1 ∧ (tableSize 7).1 ≤ 6 ∧ (tableSize 7).1 < 5 + [[0, 1], [0, 1]].length :=
  ⟨witness_yard_takes_requests.2.1, by decide, by decide, by decide, by decide⟩

/-- No check of the yard's tables fails, table by table. -/
theorem yard_passes_tables_1_to_4 (k : Nat) :
    (∀ h : HolderId, ¬HolderFails tables h k) ∧ (∀ i : Fin 16, ¬LiftFails tables i k) ∧
    (∀ h : HolderId, ¬LimitFails tables h k) ∧ (∀ c : ChannelId, ¬ChannelFails tables c k) := by
  refine ⟨fun i w => ?_, fun i w => ?_, fun i w => ?_, fun i w => ?_⟩
  · simp only [HolderFails, Outside] at w
    rcases w with ⟨-, w⟩ | ⟨-, w⟩ | ⟨-, w⟩ | ⟨-, w⟩ <;> (revert i; decide +kernel)
  · simp only [LiftFails, Outside] at w
    rcases w with ⟨-, w⟩ | ⟨-, w⟩ | ⟨-, w⟩ | ⟨-, w⟩ <;> (revert i; decide +kernel)
  · simp only [LimitFails, Outside] at w
    rcases w with ⟨-, w⟩ | ⟨-, w⟩ | ⟨-, w⟩ | ⟨-, w⟩ | ⟨-, w⟩ | ⟨-, w⟩ <;> (revert i; decide +kernel)
  · simp only [ChannelFails, Outside] at w
    rcases w with ⟨-, w⟩ | ⟨-, w⟩ | ⟨-, w⟩ | ⟨-, w⟩ | ⟨-, w⟩ | ⟨-, w⟩ | ⟨-, w⟩ <;> (revert i; decide +kernel)

theorem yard_passes_tables_5_to_8 (k : Nat) :
    (∀ p : PointId, ¬ContactFails tables p k) ∧ (∀ v : ValveId, ¬ValveFails yard v k) ∧
    (∀ p : PulseId, ¬MeterFails tables p k) ∧ (∀ n : StationId, ¬StationFails tables n k) := by
  refine ⟨fun i w => ?_, fun i w => ?_, fun i w => ?_, fun i w => ?_⟩
  · simp only [ContactFails, Outside] at w
    rcases w with ⟨-, w⟩ | ⟨-, w⟩ | ⟨-, w⟩ | ⟨-, w⟩ <;> (revert i; decide +kernel)
  · simp only [ValveFails, Outside] at w
    rcases w with ⟨-, w⟩ | ⟨-, w⟩ | ⟨-, w⟩ <;> (revert i; decide +kernel)
  · simp only [MeterFails, Outside] at w
    rcases w with ⟨-, w⟩ | ⟨-, w⟩ <;> (revert i; decide +kernel)
  · simp only [StationFails, Outside] at w
    rcases w with ⟨-, w⟩ | ⟨-, w⟩ | ⟨-, w⟩ | ⟨-, w⟩ <;> (revert i; decide +kernel)

theorem yard_passes_tables_9_to_12 (k : Nat) :
    (∀ d : DistrictId, ¬DistrictFails tables d k) ∧ (∀ i : Fin 192, ¬ProfileFails tables i k) ∧
    ¬AccountFails tables.account k ∧ ¬YardFails tables.yard k := by
  refine ⟨fun i w => ?_, fun i w => ?_, fun w => ?_, fun w => ?_⟩
  · simp only [DistrictFails, Outside] at w
    rcases w with ⟨-, w⟩ | ⟨-, w⟩ | ⟨-, w⟩ | ⟨-, w⟩ | ⟨-, w⟩ | ⟨-, w⟩ | ⟨-, w⟩ | ⟨-, w⟩ | ⟨-, w⟩ | ⟨-, w⟩ | ⟨-, w⟩ |
      ⟨-, w⟩ | ⟨-, w⟩ | ⟨-, w⟩ | ⟨-, w⟩ | ⟨-, w⟩ <;> (revert i; decide +kernel)
  · simp only [ProfileFails, Outside] at w
    obtain ⟨-, w⟩ := w
    revert i; decide +kernel
  · simp only [AccountFails, Outside] at w
    rcases w with ⟨-, w⟩ | ⟨-, w⟩ | ⟨-, w⟩ | ⟨-, w⟩ <;> (revert w; decide)
  · simp only [YardFails, Outside] at w
    rcases w with ⟨-, w⟩ | ⟨-, w⟩ | ⟨-, w⟩ | ⟨-, w⟩ | ⟨-, w⟩ | ⟨-, w⟩ | ⟨-, w⟩ <;> (revert w; decide)

theorem witness_RefusedCommit_passes (no i k : Nat) : ¬StagedFails yard no i k := by
  rintro (⟨-, x, -, w⟩ | ⟨-, x, -, w⟩ | ⟨-, x, -, w⟩ | ⟨-, x, -, w⟩ | ⟨-, x, -, w⟩ | ⟨-, x, -, w⟩ | ⟨-, x, -, w⟩ |
    ⟨-, x, -, w⟩ | ⟨-, x, -, w⟩ | ⟨-, x, -, w⟩ | ⟨-, -, w⟩ | ⟨-, -, w⟩)
  · exact (yard_passes_tables_1_to_4 k).1 x w
  · exact (yard_passes_tables_1_to_4 k).2.1 x w
  · exact (yard_passes_tables_1_to_4 k).2.2.1 x w
  · exact (yard_passes_tables_1_to_4 k).2.2.2 x w
  · exact (yard_passes_tables_5_to_8 k).1 x w
  · exact (yard_passes_tables_5_to_8 k).2.1 x w
  · exact (yard_passes_tables_5_to_8 k).2.2.1 x w
  · exact (yard_passes_tables_5_to_8 k).2.2.2 x w
  · exact (yard_passes_tables_9_to_12 k).1 x w
  · exact (yard_passes_tables_9_to_12 k).2.1 x w
  · exact (yard_passes_tables_9_to_12 k).2.2.1 w
  · exact (yard_passes_tables_9_to_12 k).2.2.2 w

/-- With no holder configured the first of all checks fails (R43). -/
theorem witness_RefusedCommit_first :
    (let s := { yard with staged := Tables.default }
     StagedFails s 1 0 1 ∧ checkedField 1 1 = 1 ∧ checkedField 9 14 = 6 ∧
     ∀ no' i' k', StagedFails s no' i' k' → 1 < no' ∨ 1 = no' ∧ (0 < i' ∨ 0 = i' ∧ 1 ≤ k')) := by
  refine ⟨.inl ⟨rfl, 0, rfl, .inl ⟨rfl, .inr (by decide +kernel)⟩⟩, rfl, rfl, fun no' i' k' w => ?_⟩
  have hk : no' = 1 → 1 ≤ k' := by
    rintro rfl
    obtain ⟨-, h, -, w⟩ := w.resolve_right (by simp)
    rcases w with ⟨rfl, -⟩ | ⟨rfl, -⟩ | ⟨rfl, -⟩ | ⟨rfl, -⟩ <;> decide
  have hn : 1 ≤ no' := by
    rcases w with ⟨rfl, -⟩ | ⟨rfl, -⟩ | ⟨rfl, -⟩ | ⟨rfl, -⟩ | ⟨rfl, -⟩ | ⟨rfl, -⟩ | ⟨rfl, -⟩ | ⟨rfl, -⟩ | ⟨rfl, -⟩ |
      ⟨rfl, -⟩ | ⟨rfl, -⟩ | ⟨rfl, -⟩ <;> decide
  omega

theorem witness_RefusedCommit :
    Reaches true (withValve 7 (travelling .toOpen .manual 5) yard) ∧ yard.tables.valveOn 7 = true ∧
    (withValve 7 (travelling .toOpen .manual 5) yard).valves[(7 : Fin 8)].state = .opening ∧
    (∀ v : ValveId, yard.valves[v].state ≠ .opening ∧ yard.valves[v].state ≠ .closing) ∧
    busyPlan.plan.record.isSome = true ∧ (yard.setCheck armed).check.state = .armed ∧
    yard.plan.record.isSome = false ∧ yard.plan.settle.isSome = false ∧ yard.check.state = .idle :=
  ⟨⟨⟨rfl, by decide⟩, .inl rfl⟩, by decide +kernel⟩

theorem witness_CommitPutsTheStagedCopyToUse :
    Reaches true yard ∧
    (∀ v : ValveId, yard.tables.valveOn v = true → yard.valves[v].state ≠ .opening ∧ yard.valves[v].state ≠ .closing) ∧
    yard.plan.record = none ∧ yard.plan.settle = none ∧ yard.check.state ≠ .armed ∧ yard.check.state ≠ .running ∧
    stagedFault yard = none ∧ yard.retained.clockSet = true ∧
    (let now := { tables with
        station := tables.station.set 4 ⟨1, 1, 0, 120⟩, meter := tables.meter.set 4 ⟨0, 100000⟩
        channel := (tables.channel.set 14 { defaultChannel 14 with enabled := 0 }).set 15
          { defaultChannel 15 with enabled := 1, staleLimit := 30 }
        account := { tables.account with gasDayStart := 7 } }
     let s := { lastSecond with staged := now }
     stagedFault s = none ∧ s.account.running = true ∧ s.account.hour.isSome = true ∧ s.account.day.isSome = true ∧
     s.account.queue.length < 63 ∧ (s.tables.stationOn 4 = false ∧ s.staged.stationOn 4 = true) ∧
     (s.tables.meterOn 4 = true ∧ s.staged.meterOn 4 = false)) ∧
    (let s := { State.reset with staged := tables }
     s.tables.holderOn 0 = false ∧ s.staged.holderOn 0 = true ∧ s.tables.districtOn 0 = false ∧
     s.staged.districtOn 0 = true ∧ stagedFault s = none) :=
  ⟨witness_yard_takes_requests.2.1, by decide +kernel⟩

/-- A valve kept by a commit, one whose contact a commit delivers, roles with their valves OPEN, and two outlets that
stand open at a derivation. -/
theorem witness_CommitPutsTheStagedCopyToUse_roles :
    (yard.tables.valveOn 1 = true ∧ yard.staged.valveOn 1 = true ∧ yard.tables.contact = yard.staged.contact) ∧
    (∀ h : HolderId, yard.controls[h].queue = []) ∧ yard.plan.send = some 0 ∧
    stateOf (after (.tableCommit 1) yard) (outletOf 0) = .opened ∧
    (after (.tableCommit 1) yard).plan.send = some 0 ∧
    (let s := withValve 3 openValve yard
     (after (.tableCommit 1) s).plan.settle = some [3] ∧ (after (.tableCommit 1) s).plan.send = some 0 ∧
     (after (.tableCommit 1) s).valves[(3 : Fin 8)].state = .closing) ∧
    (let d : Delivery := ⟨.valveOpen 1, some ⟨true, true⟩⟩
     d.use = .valveOpen 1 ∧ yard.valves[(1 : Fin 8)].state ≠ .opening ∧ yard.valves[(1 : Fin 8)].state ≠ .closing) := by
  decide +kernel

theorem witness_Restart :
    Reaches true yard ∧
    (∀ v : ValveId, yard.tables.valveOn v = true → yard.valves[v].state ≠ .opening ∧ yard.valves[v].state ≠ .closing) ∧
    (withValve 7 (travelling .toOpen .manual 5) yard).valves[(7 : Fin 8)].state = .opening :=
  ⟨witness_yard_takes_requests.2.1, by decide +kernel⟩

theorem witness_RequestsReadBack_and_FrameBytes :
    (Instr.tableWrite 1 7 5 [[0, -20000]]).wf = true ∧
    requestParts (.tableWrite 1 7 5 [[0, -20000]]) =
      some (0x22, 1, [7, 5, 1, 0, 0, 0, 0, 0xFF, 0xFF, 0xB1, 0xE0]) ∧
    0 < (tableSize 7).1 ∧ entriesFit 7 [[0, -20000]] = true ∧ yard.supply = true ∧ yard.link.receiver = .hunting := by
  decide +kernel

/-- The invariants hold of the yard, where valves stand open, an alarm can be listed and the line polls. -/
theorem witness_StepsKeepTheYard_and_the_rest :
    fullList.Sound ∧ YardSound yard ∧ CountsSound yard ∧ yard.account.Sound ∧ LineSound yard ∧ LinkSound yard ∧
    PlanSound yard ∧ (∃ t, step yard = .next t) := by
  refine ⟨?_, ?_, ?_, ?_, ?_, ?_, ?_, _, rfl⟩
  · unfold AlarmList.Sound; decide +kernel
  · unfold YardSound Valve.Coherent HolderControl.Coherent Booster.Coherent; decide +kernel
  · unfold CountsSound Time.Legal Meter.Coherent Check.Coherent
    refine ⟨by decide +kernel, fun p => ⟨?_, ?_, ?_⟩, by decide +kernel⟩
    · revert p; decide +kernel
    · revert p; decide +kernel
    · intro n h
      have : ∀ p : PulseId, yard.meters[p].interval = none := by decide +kernel
      rw [this p] at h; cases h
  · exact ⟨by decide +kernel, by decide +kernel, by decide +kernel, fun r h => nomatch h⟩
  · refine ⟨⟨⟨by decide +kernel, (fun q h => nomatch h), by decide +kernel, by decide +kernel,
      ⟨(fun h => nomatch h), (fun ⟨a, h, _⟩ => nomatch h)⟩, by decide +kernel⟩, by decide +kernel⟩, ?_⟩
    unfold Station.Coherent; decide +kernel
  · unfold LinkSound; decide +kernel
  · unfold PlanSound; decide +kernel

end Sys2Proof.Tests
end

section
/-! SUPPORT. The end of a scan cycle (02_contact_matrix.md): what the Contact Scanner makes of its own records, what the
contact events and the derivation leave alone, and from both the settlement of O9. -/

namespace Sys2Proof.Machine

/-! ### Return lines (R16, R17) -/

/-- R16's table: a second quiet reading against a line's state changes it, a first one is counted, and any other
reading clears the run. -/
theorem judgeReturn_eq (r : ReturnLine) (q : Bool) :
    judgeReturn r q = if r.stuck then ⟨q || !r.run, !q && !r.run⟩ else ⟨q && r.run, q && !r.run⟩ := by
  obtain ⟨stuck, run⟩ := r
  cases stuck <;> cases q <;> cases run <;> rfl

/-- One return line judged in place, with its alarm: the step that `judgeReturns` takes for each line. -/
def judgeReturnAt (quiet : BitVec 4) (i : ReturnId) (s : State) : State :=
  alarmChange .returnStuck i.val s.returns[i].stuck (judgeReturn s.returns[i] (quiet.getLsbD i.val)).stuck
    { s with returns := s.returns.set i (judgeReturn s.returns[i] (quiet.getLsbD i.val)) }

theorem judgeReturns_eq_inOrder (quiet : BitVec 4) (s : State) :
    judgeReturns quiet s = inOrder allReturns (judgeReturnAt quiet) s := rfl

theorem judgeReturnAt_spec (quiet : BitVec 4) (i : ReturnId) (s : State) :
    ∃ al, judgeReturnAt quiet i s =
      { s with returns := s.returns.set i (judgeReturn s.returns[i] (quiet.getLsbD i.val)), alarms := al } := by
  obtain ⟨al, h, -⟩ := alarmChange_spec .returnStuck i.val s.returns[i].stuck
    (judgeReturn s.returns[i] (quiet.getLsbD i.val)).stuck
    { s with returns := s.returns.set i (judgeReturn s.returns[i] (quiet.getLsbD i.val)) }
  exact ⟨al, h⟩

/-- Distinct lines judged one after another: each by the record it began with. -/
theorem inOrder_judgeReturnAt (quiet : BitVec 4) {l : List ReturnId} (hl : l.Nodup) (s : State) :
    ∃ rs al, inOrder l (judgeReturnAt quiet) s = { s with returns := rs, alarms := al } ∧
      ∀ i : ReturnId, rs[i] = if i ∈ l then judgeReturn s.returns[i] (quiet.getLsbD i.val) else s.returns[i] := by
  induction l generalizing s with
  | nil => exact ⟨s.returns, s.alarms, rfl, fun i => by simp⟩
  | cons a l ih =>
    obtain ⟨ha, hl⟩ := List.nodup_cons.mp hl
    obtain ⟨al₁, h₁⟩ := judgeReturnAt_spec quiet a s
    obtain ⟨rs, al, h₂, hrs⟩ := ih hl (judgeReturnAt quiet a s)
    refine ⟨rs, al, h₂.trans (by rw [h₁]), fun i => ?_⟩
    rw [hrs i, h₁]
    by_cases hi : a = i
    · subst hi
      simp [ha]
    · simp [hi, Ne.symm hi]

/-- The judgment of the return lines changes them and the alarms alone. -/
theorem judgeReturns_spec (quiet : BitVec 4) (s : State) :
    ∃ rs al, judgeReturns quiet s = { s with returns := rs, alarms := al } ∧
      ∀ i : ReturnId, rs[i] = judgeReturn s.returns[i] (quiet.getLsbD i.val) := by
  obtain ⟨rs, al, h, hrs⟩ := inOrder_judgeReturnAt quiet (l := allReturns) (by decide) s
  have all : ∀ i : ReturnId, i ∈ allReturns := by decide
  exact ⟨rs, al, h, fun i => (hrs i).trans (if_pos (all i))⟩

/-! ### Contacts (R18 to R20) -/

/-- R18 field by field: a candidate outlives a cycle only where it was set in that cycle. -/
theorem debounce_eq (p : Point) (reading : Reading) (qualified : Bool) :
    debounce p reading qualified =
      { p with
        reading := reading
        debounced := if qualified = true ∧ p.debounced ≠ some reading ∧ p.candidate = some reading then some reading
          else p.debounced
        candidate := if qualified = true ∧ p.debounced ≠ some reading ∧ p.candidate ≠ some reading then some reading
          else none } := by
  cases qualified
  case false => simp [debounce]
  case true =>
    by_cases hd : p.debounced = some reading
    · simp [debounce, hd]
    · by_cases hc : p.candidate = some reading
      · simp [debounce, hd, hc]
      · simp [debounce, hd, hc]

/-- A point with the use `w` as the delivery of its changes leaves it (R20). -/
def Point.marked (p : Point) (w : Watch) : Point :=
  { p with delivered := if w = .nothing then p.delivered else p.pair }

theorem markDelivered_point (s : State) (k : PointId) :
    (markDelivered s).points[k] = s.points[k].marked s.tables.contact[k].watches := by
  by_cases hw : s.tables.contact[k].watches = .nothing <;> simp_all [markDelivered, Point.marked]

/-- The scanner's part of a cycle end changes the return lines, the points and the alarms alone. -/
theorem scanCycle_spec (made : BitVec 64) (quiet : BitVec 4) (s : State) :
    ∃ rs ps al, (scanCycle made quiet s).1 = { s with returns := rs, points := ps, alarms := al } ∧
      (∀ i : ReturnId, rs[i] = judgeReturn s.returns[i] (quiet.getLsbD i.val)) ∧
      ∀ k : PointId, ps[k] = (judgePoint s.tables.contact[k] rs[returnOf k].stuck
        (debounce s.points[k] (if made.getLsbD k.val then .made else .broken)
          (qualifies (quiet.getLsbD (returnOf k).val)))).marked s.tables.contact[k].watches := by
  obtain ⟨rs, al, h, hrs⟩ := judgeReturns_spec quiet s
  refine ⟨rs, (scanCycle made quiet s).1.points, al, ?_, hrs, fun k => ?_⟩
  · unfold scanCycle markDelivered
    rw [h]
  · unfold scanCycle
    rw [h]
    exact (markDelivered_point _ k).trans (by simp [scannedPoint, State.tables])

/-! ### What the rest of the event leaves alone -/

/-- The contact events of a cycle end stay inside the yard. -/
theorem scanEvent_frame (made : BitVec 64) (quiet : BitVec 4) (order : BlockOrder) (s : State) :
    SameOutsideYard (scanCycle made quiet s).1 (scanEvent made quiet order s) :=
  (sameOutsideYard_closed _).kept_contactEvents order _ (.refl _)

@[simp] theorem sendCall_points (s : State) : (sendCall s).points = s.points := rfl
@[simp] theorem sendCall_returns (s : State) : (sendCall s).returns = s.returns := rfl
@[simp] theorem countScan_points (s : State) : (countScan s).points = s.points := rfl
@[simp] theorem countScan_returns (s : State) : (countScan s).returns = s.returns := rfl
@[simp] theorem planAwake_countScan (s : State) : planAwake (countScan s) = planAwake s := rfl

/-- The derivation leaves the scanner's records alone. -/
theorem deriveYard_scanner (s : State) :
    (deriveYard s).points = s.points ∧ (deriveYard s).returns = s.returns := by
  have judged := (sameOutsideYard_closed s).kept_evaluateLimits
    ((sameOutsideYard_closed s).kept_deriveValves (.refl s))
  unfold deriveYard
  dsimp only
  generalize evaluateLimits (deriveValves s) = u at judged ⊢
  have derived (v : State) : SameOutsideYard v (planEvent (deriveRoles v)) :=
    (sameOutsideYard_closed v).kept_planEvent ((sameOutsideYard_closed v).kept_deriveRoles (.refl v))
  have planned := derived { u with startUp := { u.startUp with derived := true } }
  rw [sendCall_points, sendCall_returns]
  exact ⟨planned.points.trans judged.points, planned.returns.trans judged.returns⟩

theorem deriveIfReady_scanner (s : State) :
    (deriveIfReady s).points = s.points ∧ (deriveIfReady s).returns = s.returns := by
  unfold deriveIfReady
  split
  · exact deriveYard_scanner s
  · exact ⟨rfl, rfl⟩

/-- The derivation falls once. -/
theorem deriveIfReady_of_planAwake {s : State} (h : planAwake s = true) : deriveIfReady s = s := by
  have : deliveriesIn s = false := by
    simp only [planAwake, Bool.or_eq_true, bne_iff_ne] at h
    rcases h with h | h <;> simp [deliveriesIn, h]
  simp [deriveIfReady, this]

/-- The yard's events leave the start-up where it was. -/
theorem SameOutsideYard.planAwake_eq {s t : State} (h : SameOutsideYard s t) : planAwake t = planAwake s := by
  simp [planAwake, h.part, h.startUp]

/-- States that agree outside the yard still do once each has counted a cycle. -/
theorem SameOutsideYard.counted {s t : State} (h : SameOutsideYard s t) :
    SameOutsideYard (countScan s) (countScan t) :=
  { h with startUp := by simp [countScan, h.startUp] }

/-! ### The cycle's end -/

theorem exec_scanCycleEnd (made : BitVec 64) (quiet : BitVec 4) (order : BlockOrder) (s : State) :
    exec (.scanCycleEnd made quiet order) s = .next (scan made quiet order s) := by
  rfl

theorem scan_of_supply {s : State} (hs : s.supply = true) (made : BitVec 64) (quiet : BitVec 4) (order : BlockOrder) :
    scan made quiet order s = deriveIfReady (countScan (scanEvent made quiet order s)) := if_pos hs

/-- A powered part's cycle end leaves the scanner's records as the scanner's own part of it makes them. -/
theorem scan_scanner {s : State} (hs : s.supply = true) (made : BitVec 64) (quiet : BitVec 4) (order : BlockOrder) :
    (scan made quiet order s).points = (scanCycle made quiet s).1.points ∧
    (scan made quiet order s).returns = (scanCycle made quiet s).1.returns := by
  have events := scanEvent_frame made quiet order s
  obtain ⟨hp, hr⟩ := deriveIfReady_scanner (countScan (scanEvent made quiet order s))
  rw [scan_of_supply hs]
  rw [countScan_points] at hp
  rw [countScan_returns] at hr
  exact ⟨hp.trans events.points, hr.trans events.returns⟩

/-- From the derivation on a cycle end reaches nothing outside the yard but the scanner's records and its count. -/
theorem scan_frame {s : State} (hs : s.supply = true) (ha : planAwake s = true) (made : BitVec 64) (quiet : BitVec 4)
    (order : BlockOrder) :
    SameOutsideYard (countScan { s with
      returns := (scanCycle made quiet s).1.returns, points := (scanCycle made quiet s).1.points })
      (scan made quiet order s) := by
  obtain ⟨rs, ps, al, h, -⟩ := scanCycle_spec made quiet s
  have scanned : SameOutsideYard { s with returns := rs, points := ps }
      { s with returns := rs, points := ps, alarms := al } := by constructor <;> rfl
  have event := scanned.trans (h ▸ scanEvent_frame made quiet order s)
  have awake : planAwake (countScan (scanEvent made quiet order s)) = true := by
    rw [planAwake_countScan, event.planAwake_eq]
    exact ha
  rw [h, scan_of_supply hs, deriveIfReady_of_planAwake awake]
  exact event.counted

/-- Settles O9: the scanner's own part of the cycle end makes its records, and neither the contact events nor the
derivation touches them. -/
theorem scanCycleDebounces : Obligations.ScanCycleDebounces := by
  intro made quiet order s hs
  obtain ⟨rs, ps, al, h, hrs, hps⟩ := scanCycle_spec made quiet s
  obtain ⟨hp, hr⟩ := scan_scanner hs made quiet order
  have points : (scan made quiet order s).points = ps := by rw [hp, h]
  have returns : (scan made quiet order s).returns = rs := by rw [hr, h]
  refine ⟨_, exec_scanCycleEnd made quiet order s, fun i => ?_, fun k => ?_, fun ha => ?_⟩
  · rw [returns, hrs i]
    exact judgeReturn_eq _ _
  · rw [points, returns, hps k, debounce_eq]
    refine ⟨rfl, ?_, ?_, ?_, ?_, rfl⟩
    · simp [Point.marked, judgePoint, qualifies, returnOf]
    · simp [Point.marked, judgePoint, qualifies, returnOf]
    · simp [Point.marked, judgePoint, Option.isSome_iff_ne_none]
    · simp [Point.marked, judgePoint, activeOf]
  · rw [hp, hr]
    exact scan_frame hs ha made quiet order

end Sys2Proof.Machine
end

section
/-! SUPPORT. What an acting request comes to under the tests common to all requests (12_host_link_and_messages.md), what
a pulse does to a check that is not active (06_meter_counting.md), and from both the settlement of O25. -/

namespace Sys2Proof.Machine

/-! ### The tests common to all requests (R187, R188) -/

/-- A part that listens judges the request at once and answers. -/
theorem request_of_listens {s : State} (hs : Listens s) (code tag : Byte) (fits : Bool) (j : Judgment) :
    request code tag fits j s =
      answered code tag (judgeRequest code fits j s).2 (judgeRequest code fits j s).1 := by
  obtain ⟨powered, opened⟩ := hs
  have heard : (s.supply && s.link.receiver != .closed) = true := by simp [powered, opened]
  exact if_pos heard

/-- A request that reaches its block is judged by that block's rule alone. -/
theorem judgeRequest_of_reaches {s : State} (hs : Reaches false s) (code : Byte) (j : Judgment) :
    judgeRequest code true j s = j s := by
  have run : s.part = .run := by simpa using hs.2
  simp [judgeRequest, run]

/-- UNCONFIGURED refuses the acting requests that the catalogue does not mark as taken there. -/
theorem judgeRequest_of_unconfigured {s : State} (hs : s.part = .unconfigured) {code : Byte}
    (acting : isActing code = true) (barred : takenUnconfigured code = false) (j : Judgment) :
    judgeRequest code true j s = (s, .rejected .unconfigured none) := by
  simp [judgeRequest, refusal, hs, acting, barred]

/-- The answer leaves by the link and touches no other block. -/
@[simp] theorem answered_check (code tag : Byte) (r : Reply) (s : State) :
    (answered code tag r s).check = s.check := rfl

/-! ### Active checks and their end (R109, R113) -/

theorem Check.active_iff (c : Check) : c.active = true ↔ c.state = .armed ∨ c.state = .running := by
  simp [Check.active]

theorem Check.active_eq_false_iff (c : Check) : c.active = false ↔ c.state ≠ .armed ∧ c.state ≠ .running := by
  simp [Check.active]

theorem stopCheck_of_active {s : State} (h : s.check.active = true) :
    stopCheck s = checkEnds (s.check.cutShort .aborted (some .requested)) s := if_pos h

theorem stopCheck_of_inactive {s : State} (h : s.check.active = false) : stopCheck s = s := by
  simp [stopCheck, h]

/-- CHECK-DONE goes to the alarm list, and the check holds the record it ended with. -/
@[simp] theorem checkEnds_check (c : Check) (s : State) : (checkEnds c s).check = c := rfl

theorem stopCheck_inactive (s : State) : (stopCheck s).check.active = false := by
  cases h : s.check.active with
  | false => rw [stopCheck_of_inactive h, h]
  | true => rw [stopCheck_of_active h]; rfl

/-! ### A pulse that no active check takes (R101, R110) -/

theorem targetPulse_of_inactive {s : State} (h : s.check.active = false) (target : Fin 5) :
    targetPulse target s = s := by
  obtain ⟨notArmed, notRunning⟩ := s.check.active_eq_false_iff.mp h
  unfold targetPulse
  dsimp only
  split
  · next armed => exact absurd armed notArmed
  · next running => exact absurd running notRunning
  · rfl

theorem meterPulse_of_inactive {s : State} (h : s.check.active = false) : meterPulse s = s := by
  obtain ⟨-, notRunning⟩ := s.check.active_eq_false_iff.mp h
  unfold meterPulse
  dsimp only
  split
  · next running => exact absurd running notRunning
  · rfl

theorem checkPulse_of_inactive {s : State} (h : s.check.active = false) (p : PulseId) : checkPulse p s = s := by
  unfold checkPulse
  cases s.check.target with
  | none => rfl
  | some target => simp [targetPulse_of_inactive h, meterPulse_of_inactive h]

/-- METER-SATURATED and the periods' flag leave the check alone. -/
@[simp] theorem saturation_check (p : PulseId) (before after : Bool) (s : State) :
    (saturation p before after s).check = s.check := by
  unfold saturation
  split
  · split
    · exact (markPeriods_frame _ _).check
    · rfl
  · rfl

/-- A pulse never changes a check that is not active. -/
theorem takePulse_check_of_inactive {s : State} (h : s.check.active = false) (p : PulseId) :
    (takePulse p s).check = s.check := by
  unfold takePulse
  split
  · rw [checkPulse_of_inactive (by simpa using h)]
    simp
  · rfl

/-! ### CHECK-STOP -/

theorem exec_checkStop (tag : Byte) (s : State) :
    exec (.checkStop tag) s = .next (request 0x2B tag true judgeCheckStop s) := by
  rfl

theorem exec_pulse (p : PulseId) (s : State) : exec (.pulse p) s = .next (powered (takePulse p) s) := by
  rfl

theorem exec_checkStop_of_unconfigured {s : State} (hs : Listens s) (hp : s.part = .unconfigured) (tag : Byte) :
    exec (.checkStop tag) s = .next (answered 0x2B tag (.rejected .unconfigured none) s) := by
  rw [exec_checkStop, request_of_listens hs,
    judgeRequest_of_unconfigured hp (by decide : isActing 0x2B = true) (by decide : takenUnconfigured 0x2B = false)]

/-- A CHECK-STOP that reaches the Meter Unit is DONE, whatever the check's state. -/
theorem exec_checkStop_of_reaches {s : State} (hs : Reaches false s) (tag : Byte) :
    exec (.checkStop tag) s = .next (answered 0x2B tag (.accepted []) (stopCheck s)) := by
  rw [exec_checkStop, request_of_listens hs.1, judgeRequest_of_reaches hs]
  rfl

/-- Settles O25: the request's own tests come first, and the stop leaves no active check for a pulse to find. -/
theorem checkStop : Obligations.CheckStop := by
  refine ⟨fun tag s hs hp => exec_checkStop_of_unconfigured hs hp tag, fun tag s hs hc => ?_,
    fun tag s hs hArmed hRunning => ?_, fun tag p s t u hs ht hu => ?_⟩
  · rw [exec_checkStop_of_reaches hs, stopCheck_of_active (s.check.active_iff.mpr hc)]
    rfl
  · rw [exec_checkStop_of_reaches hs, stopCheck_of_inactive (s.check.active_eq_false_iff.mpr ⟨hArmed, hRunning⟩)]
  · rw [exec_checkStop_of_reaches hs] at ht
    rw [exec_pulse] at hu
    cases ht
    cases hu
    unfold powered
    split
    · exact takePulse_check_of_inactive (by simpa using stopCheck_inactive s) p
    · rfl

end Sys2Proof.Machine
end

section
/-! SUPPORT. The alarm list (10_alarm_list.md): what each of its operations leaves, by the entry found (R173, R174) and by
the room for a new one (R176), and from these the settlement of O42. -/

namespace Sys2Proof.Machine

namespace AlarmList

variable {l : AlarmList} {k : AlarmKind} {i : Nat} {e : AlarmEntry}

/-! ### A changed and a removed entry -/

/-- The model's own test of an entry's kind and source, as the rules put it. -/
theorem change_entries (l : AlarmList) (k : AlarmKind) (i : Nat) (f : AlarmEntry → AlarmEntry) :
    (l.change k i f).entries = l.entries.map fun e => if e.kind = k ∧ e.index = i then f e else e := by
  simp [change, AlarmEntry.names]

@[simp] theorem change_listFull (l : AlarmList) (k : AlarmKind) (i : Nat) (f : AlarmEntry → AlarmEntry) :
    (l.change k i f).listFull = l.listFull := rfl

theorem remove_entries (l : AlarmList) (k : AlarmKind) (i : Nat) :
    (l.remove k i).entries = l.entries.filter fun e => decide ¬(e.kind = k ∧ e.index = i) := by
  simp [remove, AlarmEntry.names]

@[simp] theorem remove_listFull (l : AlarmList) (k : AlarmKind) (i : Nat) : (l.remove k i).listFull = false := rfl

/-! ### A new entry (R176) -/

theorem append_of_room (room : l.entries.length < 32) (e : AlarmEntry) :
    l.append e = { l with entries := l.entries ++ [e] } := if_pos room

theorem append_of_none_ended (full : 32 ≤ l.entries.length) (kept : ∀ x ∈ l.entries, x.state ≠ .ended)
    (e : AlarmEntry) : l.append e = { l with listFull := true } := by
  have noRoom : ¬ l.entries.length < Config.alarmCapacity := Nat.not_lt.mpr full
  have noEnded : ¬ l.entries.any (fun x => x.state == .ended) = true := by simpa using kept
  rw [append, if_neg noRoom, if_neg noEnded]

/-- A full list loses the first of its ENDED entries, the oldest. -/
theorem append_of_oldest_ended {before after : List AlarmEntry} {old : AlarmEntry} (full : 32 ≤ l.entries.length)
    (parts : l.entries = before ++ old :: after) (ended : old.state = .ended)
    (older : ∀ x ∈ before, x.state ≠ .ended) (e : AlarmEntry) :
    l.append e = { l with entries := before ++ after ++ [e] } := by
  have noRoom : ¬ l.entries.length < Config.alarmCapacity := Nat.not_lt.mpr full
  have anEnded : l.entries.any (fun x => x.state == .ended) = true := by simp [parts, ended]
  have evicted : l.entries.eraseP (fun x => x.state == .ended) = before ++ after := by
    rw [parts, List.eraseP_append_right _ (by simpa using older), List.eraseP_cons_of_pos (by simp [ended])]
  rw [append, if_neg noRoom, if_pos anEnded, evicted]

/-! ### The rise of a condition (R173) -/

theorem rise_of_unlisted (h : l.lookup k i = none) (t : Time) (unset : Bool) :
    l.rise k i t unset = l.append ⟨k, i, .raised, t, unset, 0⟩ := by
  simp [rise, h]

theorem rise_of_ended (h : l.lookup k i = some e) (he : e.state = .ended) (t : Time) (unset : Bool) :
    l.rise k i t unset = l.change k i fun e => { again e with state := .raised } := by
  simp [rise, h, he]

theorem rise_of_not_ended (h : l.lookup k i = some e) (he : e.state ≠ .ended) (t : Time) (unset : Bool) :
    l.rise k i t unset = l := by
  simp [rise, h, he]

/-! ### The end of a condition (R173) -/

theorem finish_of_unlisted (h : l.lookup k i = none) : l.finish k i = l := by
  simp [finish, h]

theorem finish_of_raised (h : l.lookup k i = some e) (he : e.state = .raised) :
    l.finish k i = l.change k i fun e => { e with state := .ended } := by
  simp [finish, h, he]

theorem finish_of_standing (h : l.lookup k i = some e) (he : e.state = .standing) :
    l.finish k i = l.remove k i := by
  simp [finish, h, he]

theorem finish_of_ended (h : l.lookup k i = some e) (he : e.state = .ended) : l.finish k i = l := by
  simp [finish, h, he]

/-! ### A momentary alarm (R174) -/

theorem moment_of_unlisted (h : l.lookup k i = none) (t : Time) (unset : Bool) :
    l.moment k i t unset = l.append ⟨k, i, .ended, t, unset, 0⟩ := by
  simp [moment, h]

theorem moment_of_listed (h : l.lookup k i = some e) (t : Time) (unset : Bool) :
    l.moment k i t unset = l.change k i again := by
  simp [moment, h]

/-! ### ATTENTION (R177) -/

@[simp] theorem judged_entries (l : AlarmList) : l.judged.entries = l.entries := rfl

@[simp] theorem judged_listFull (l : AlarmList) : l.judged.listFull = l.listFull := rfl

/-- An entry calls for attention in either state but STANDING. -/
theorem judged_attention (l : AlarmList) :
    l.judged.attention = true ↔ ∃ e ∈ l.judged.entries, e.state = .raised ∨ e.state = .ended := by
  have notStanding (x : EntryState) : x ≠ .standing ↔ x = .raised ∨ x = .ended := by cases x <;> simp
  simp [judged, notStanding]

end AlarmList

/-! ### The deliveries -/

theorem raiseAlarm_alarms (k : AlarmKind) (i : Nat) (s : State) :
    (raiseAlarm k i s).alarms = (s.alarms.rise k i s.clock (!s.retained.clockSet)).judged := rfl

theorem endAlarm_alarms (k : AlarmKind) (i : Nat) (s : State) :
    (endAlarm k i s).alarms = (s.alarms.finish k i).judged := rfl

theorem momentAlarm_alarms (k : AlarmKind) (i : Nat) (s : State) :
    (momentAlarm k i s).alarms = (s.alarms.moment k i s.clock (!s.retained.clockSet)).judged := rfl

open AlarmList in
/-- Settles O42: one case of the list's operation for each entry that can be found, and R176's three for a new one. -/
theorem alarmDeliveries : Obligations.AlarmDeliveries := by
  refine ⟨fun k i s => ?_, fun k i s => ?_⟩
  · rw [raiseAlarm_alarms, endAlarm_alarms]
    refine ⟨fun unlisted room => ?_, fun unlisted full kept => ?_,
      fun before old after unlisted full parts ended older => ?_, fun e found ended => ?_, fun e found notEnded => ?_,
      fun e found raised => ?_, fun e found standing => ?_, fun e found ended => ?_, fun unlisted => ?_,
      judged_attention _, judged_attention _, fun _ => rfl, fun _ => rfl⟩
    · rw [rise_of_unlisted unlisted, append_of_room room]
      exact ⟨rfl, rfl⟩
    · rw [rise_of_unlisted unlisted, append_of_none_ended full kept]
      exact ⟨rfl, rfl⟩
    · rw [rise_of_unlisted unlisted, append_of_oldest_ended full parts ended older]
      exact ⟨rfl, rfl⟩
    · rw [rise_of_ended found ended]
      exact ⟨change_entries .., rfl⟩
    · rw [rise_of_not_ended found notEnded]
      exact ⟨rfl, rfl⟩
    · rw [finish_of_raised found raised]
      exact ⟨change_entries .., rfl⟩
    · rw [finish_of_standing found standing]
      exact ⟨remove_entries .., rfl⟩
    · rw [finish_of_ended found ended]
      exact ⟨rfl, rfl⟩
    · rw [finish_of_unlisted unlisted]
      exact ⟨rfl, rfl⟩
  · rw [momentAlarm_alarms]
    refine ⟨fun unlisted room => ?_, fun unlisted full kept => ?_,
      fun before old after unlisted full parts ended older => ?_, fun e found _ => ?_, judged_attention _, fun _ => rfl⟩
    · rw [moment_of_unlisted unlisted, append_of_room room]
      exact ⟨rfl, rfl⟩
    · rw [moment_of_unlisted unlisted, append_of_none_ended full kept]
      exact ⟨rfl, rfl⟩
    · rw [moment_of_unlisted unlisted, append_of_oldest_ended full parts ended older]
      exact ⟨rfl, rfl⟩
    · rw [moment_of_listed found]
      exact ⟨change_entries .., rfl⟩

end Sys2Proof.Machine
end
